-- ==== Sys2Proof/Word.lean ====
section
/-! DEFINITION. The two widths of the machine: 8-bit data and 16-bit addresses (00_scope.md R10). -/

namespace Sys2Proof

/-- An 8-bit value: a register, a memory byte, an opcode byte (00_scope.md R10, R11). -/
abbrev Byte := BitVec 8

/-- A 16-bit value: an address, the program counter (00_scope.md R10, R11). -/
abbrev Word := BitVec 16

end Sys2Proof
end

