-- ==== Sys2Proof/Syntax.lean ====
section
/-! DEFINITION. The instruction set as data: mnemonics, addressing modes, operands, and Instr, one constructor for each
row of spec/opcode_table.json (30_encoding.md R95). A constructor's fields are the operand bytes of its format (R81): a
`Byte` for b1, a `Word` for the little-endian pair b2:b1. -/

namespace Sys2Proof

/-- The 56 mnemonics of the decode table (30_encoding.md R95), in the order of the instruction files 41 to 49. -/
inductive Mnemonic where
  | lda | ldx | ldy | sta | stx | sty | tax | tay | txa | tya | tsx | txs | adc | sbc | and | ora | eor | bit
  | inc | dec | inx | dex | iny | dey | cmp | cpx | cpy | asl | lsr | rol | ror | pha | pla | php | plp | jmp
  | jsr | rts | bcc | bcs | beq | bne | bpl | bmi | bvc | bvs | brk | rti | clc | sec | cli | sei | cld | sed
  | clv | nop
  deriving DecidableEq, Repr

/-- The thirteen addressing modes (30_encoding.md R84 to R96). -/
inductive Mode where
  | implied | accumulator | immediate | zeroPage | zeroPageX | zeroPageY | absolute | absoluteX | absoluteY
  | indirect | indexedIndirect | indirectIndexed | relative
  deriving DecidableEq, Repr

/-- The modes that designate a data byte in memory, with their operand bytes (30_encoding.md R87 to R89, R91 to R94). -/
inductive AddrMode where
  /-- `$nn` (R87) -/
  | zeroPage (addr : Byte)
  /-- `$nn,X` (R88) -/
  | zeroPageX (addr : Byte)
  /-- `$nn,Y` (R89) -/
  | zeroPageY (addr : Byte)
  /-- `$nnnn` (R93) -/
  | absolute (addr : Word)
  /-- `$nnnn,X` (R94) -/
  | absoluteX (addr : Word)
  /-- `$nnnn,Y` (R94) -/
  | absoluteY (addr : Word)
  /-- `($nn,X)` (R91) -/
  | indexedIndirect (ptr : Byte)
  /-- `($nn),Y` (R92) -/
  | indirectIndexed (ptr : Byte)
  deriving DecidableEq, Repr

/-- An instruction's operand as its bytes give it: the mode and the operand bytes, before any register or memory is
read (30_encoding.md R81, R83). -/
inductive Operand where
  /-- no operand (R84) -/
  | implied
  /-- A in place of a memory byte (R85) -/
  | accumulator
  /-- the byte itself (R86) -/
  | immediate (value : Byte)
  /-- a byte in memory -/
  | addressed (mode : AddrMode)
  /-- JMP through a pointer (R96) -/
  | indirect (ptr : Word)
  /-- a branch's displacement (R90) -/
  | relative (disp : Byte)
  deriving DecidableEq, Repr

/-- The instructions: one constructor for each of the 151 rows of the decode table (30_encoding.md R95). -/
inductive Instr where
  -- LDA (41_load_store_transfer.md R140)
  | ldaImmediate (value : Byte)
  | ldaZeroPage (addr : Byte)
  | ldaZeroPageX (addr : Byte)
  | ldaAbsolute (addr : Word)
  | ldaAbsoluteX (addr : Word)
  | ldaAbsoluteY (addr : Word)
  | ldaIndexedIndirect (ptr : Byte)
  | ldaIndirectIndexed (ptr : Byte)
  -- LDX (41_load_store_transfer.md R141)
  | ldxImmediate (value : Byte)
  | ldxZeroPage (addr : Byte)
  | ldxZeroPageY (addr : Byte)
  | ldxAbsolute (addr : Word)
  | ldxAbsoluteY (addr : Word)
  -- LDY (41_load_store_transfer.md R142)
  | ldyImmediate (value : Byte)
  | ldyZeroPage (addr : Byte)
  | ldyZeroPageX (addr : Byte)
  | ldyAbsolute (addr : Word)
  | ldyAbsoluteX (addr : Word)
  -- STA (41_load_store_transfer.md R143)
  | staZeroPage (addr : Byte)
  | staZeroPageX (addr : Byte)
  | staAbsolute (addr : Word)
  | staAbsoluteX (addr : Word)
  | staAbsoluteY (addr : Word)
  | staIndexedIndirect (ptr : Byte)
  | staIndirectIndexed (ptr : Byte)
  -- STX (41_load_store_transfer.md R144)
  | stxZeroPage (addr : Byte)
  | stxZeroPageY (addr : Byte)
  | stxAbsolute (addr : Word)
  -- STY (41_load_store_transfer.md R145)
  | styZeroPage (addr : Byte)
  | styZeroPageX (addr : Byte)
  | styAbsolute (addr : Word)
  -- TAX (41_load_store_transfer.md R146)
  | tax
  -- TAY (41_load_store_transfer.md R147)
  | tay
  -- TXA (41_load_store_transfer.md R148)
  | txa
  -- TYA (41_load_store_transfer.md R149)
  | tya
  -- TSX (41_load_store_transfer.md R150)
  | tsx
  -- TXS (41_load_store_transfer.md R151)
  | txs
  -- ADC (42_arithmetic.md R160)
  | adcImmediate (value : Byte)
  | adcZeroPage (addr : Byte)
  | adcZeroPageX (addr : Byte)
  | adcAbsolute (addr : Word)
  | adcAbsoluteX (addr : Word)
  | adcAbsoluteY (addr : Word)
  | adcIndexedIndirect (ptr : Byte)
  | adcIndirectIndexed (ptr : Byte)
  -- SBC (42_arithmetic.md R161)
  | sbcImmediate (value : Byte)
  | sbcZeroPage (addr : Byte)
  | sbcZeroPageX (addr : Byte)
  | sbcAbsolute (addr : Word)
  | sbcAbsoluteX (addr : Word)
  | sbcAbsoluteY (addr : Word)
  | sbcIndexedIndirect (ptr : Byte)
  | sbcIndirectIndexed (ptr : Byte)
  -- AND (43_logic.md R170)
  | andImmediate (value : Byte)
  | andZeroPage (addr : Byte)
  | andZeroPageX (addr : Byte)
  | andAbsolute (addr : Word)
  | andAbsoluteX (addr : Word)
  | andAbsoluteY (addr : Word)
  | andIndexedIndirect (ptr : Byte)
  | andIndirectIndexed (ptr : Byte)
  -- ORA (43_logic.md R171)
  | oraImmediate (value : Byte)
  | oraZeroPage (addr : Byte)
  | oraZeroPageX (addr : Byte)
  | oraAbsolute (addr : Word)
  | oraAbsoluteX (addr : Word)
  | oraAbsoluteY (addr : Word)
  | oraIndexedIndirect (ptr : Byte)
  | oraIndirectIndexed (ptr : Byte)
  -- EOR (43_logic.md R172)
  | eorImmediate (value : Byte)
  | eorZeroPage (addr : Byte)
  | eorZeroPageX (addr : Byte)
  | eorAbsolute (addr : Word)
  | eorAbsoluteX (addr : Word)
  | eorAbsoluteY (addr : Word)
  | eorIndexedIndirect (ptr : Byte)
  | eorIndirectIndexed (ptr : Byte)
  -- BIT (43_logic.md R173)
  | bitZeroPage (addr : Byte)
  | bitAbsolute (addr : Word)
  -- INC (44_incdec.md R180)
  | incZeroPage (addr : Byte)
  | incZeroPageX (addr : Byte)
  | incAbsolute (addr : Word)
  | incAbsoluteX (addr : Word)
  -- DEC (44_incdec.md R181)
  | decZeroPage (addr : Byte)
  | decZeroPageX (addr : Byte)
  | decAbsolute (addr : Word)
  | decAbsoluteX (addr : Word)
  -- INX (44_incdec.md R182)
  | inx
  -- DEX (44_incdec.md R183)
  | dex
  -- INY (44_incdec.md R184)
  | iny
  -- DEY (44_incdec.md R185)
  | dey
  -- CMP (45_compare.md R190)
  | cmpImmediate (value : Byte)
  | cmpZeroPage (addr : Byte)
  | cmpZeroPageX (addr : Byte)
  | cmpAbsolute (addr : Word)
  | cmpAbsoluteX (addr : Word)
  | cmpAbsoluteY (addr : Word)
  | cmpIndexedIndirect (ptr : Byte)
  | cmpIndirectIndexed (ptr : Byte)
  -- CPX (45_compare.md R191)
  | cpxImmediate (value : Byte)
  | cpxZeroPage (addr : Byte)
  | cpxAbsolute (addr : Word)
  -- CPY (45_compare.md R192)
  | cpyImmediate (value : Byte)
  | cpyZeroPage (addr : Byte)
  | cpyAbsolute (addr : Word)
  -- ASL (46_shift_rotate.md R200)
  | aslAccumulator
  | aslZeroPage (addr : Byte)
  | aslZeroPageX (addr : Byte)
  | aslAbsolute (addr : Word)
  | aslAbsoluteX (addr : Word)
  -- LSR (46_shift_rotate.md R201)
  | lsrAccumulator
  | lsrZeroPage (addr : Byte)
  | lsrZeroPageX (addr : Byte)
  | lsrAbsolute (addr : Word)
  | lsrAbsoluteX (addr : Word)
  -- ROL (46_shift_rotate.md R202)
  | rolAccumulator
  | rolZeroPage (addr : Byte)
  | rolZeroPageX (addr : Byte)
  | rolAbsolute (addr : Word)
  | rolAbsoluteX (addr : Word)
  -- ROR (46_shift_rotate.md R203)
  | rorAccumulator
  | rorZeroPage (addr : Byte)
  | rorZeroPageX (addr : Byte)
  | rorAbsolute (addr : Word)
  | rorAbsoluteX (addr : Word)
  -- PHA (47_stack.md R210)
  | pha
  -- PLA (47_stack.md R211)
  | pla
  -- PHP (47_stack.md R212)
  | php
  -- PLP (47_stack.md R213)
  | plp
  -- JMP (48_control_flow.md R220)
  | jmpAbsolute (addr : Word)
  | jmpIndirect (ptr : Word)
  -- JSR (48_control_flow.md R221)
  | jsr (addr : Word)
  -- RTS (48_control_flow.md R222)
  | rts
  -- BCC (48_control_flow.md R223)
  | bcc (disp : Byte)
  -- BCS (48_control_flow.md R224)
  | bcs (disp : Byte)
  -- BEQ (48_control_flow.md R225)
  | beq (disp : Byte)
  -- BNE (48_control_flow.md R226)
  | bne (disp : Byte)
  -- BPL (48_control_flow.md R227)
  | bpl (disp : Byte)
  -- BMI (48_control_flow.md R228)
  | bmi (disp : Byte)
  -- BVC (48_control_flow.md R229)
  | bvc (disp : Byte)
  -- BVS (48_control_flow.md R230)
  | bvs (disp : Byte)
  -- BRK (48_control_flow.md R231)
  | brk
  -- RTI (48_control_flow.md R232)
  | rti
  -- CLC (49_flag_nop.md R240)
  | clc
  -- SEC (49_flag_nop.md R241)
  | sec
  -- CLI (49_flag_nop.md R242)
  | cli
  -- SEI (49_flag_nop.md R243)
  | sei
  -- CLD (49_flag_nop.md R244)
  | cld
  -- SED (49_flag_nop.md R245)
  | sed
  -- CLV (49_flag_nop.md R246)
  | clv
  -- NOP (49_flag_nop.md R247)
  | nop
  deriving DecidableEq, Repr

/-- The mode of an address operand. -/
def AddrMode.mode : AddrMode → Mode
  | .zeroPage _ => .zeroPage
  | .zeroPageX _ => .zeroPageX
  | .zeroPageY _ => .zeroPageY
  | .absolute _ => .absolute
  | .absoluteX _ => .absoluteX
  | .absoluteY _ => .absoluteY
  | .indexedIndirect _ => .indexedIndirect
  | .indirectIndexed _ => .indirectIndexed

/-- The mode of an operand. -/
def Operand.mode : Operand → Mode
  | .implied => .implied
  | .accumulator => .accumulator
  | .immediate _ => .immediate
  | .addressed m => m.mode
  | .indirect _ => .indirect
  | .relative _ => .relative

/-- The instruction length in bytes, a function of the mode alone (30_encoding.md R81, R82). -/
def Mode.length : Mode → Nat
  | .implied | .accumulator => 1
  | .immediate | .zeroPage | .zeroPageX | .zeroPageY | .indexedIndirect | .indirectIndexed | .relative => 2
  | .absolute | .absoluteX | .absoluteY | .indirect => 3

/-- The mnemonic column of the decode table (30_encoding.md R95). -/
def Instr.mnemonic : Instr → Mnemonic
  | .ldaImmediate _ | .ldaZeroPage _ | .ldaZeroPageX _ | .ldaAbsolute _ | .ldaAbsoluteX _ | .ldaAbsoluteY _
  | .ldaIndexedIndirect _ | .ldaIndirectIndexed _ => .lda
  | .ldxImmediate _ | .ldxZeroPage _ | .ldxZeroPageY _ | .ldxAbsolute _ | .ldxAbsoluteY _ => .ldx
  | .ldyImmediate _ | .ldyZeroPage _ | .ldyZeroPageX _ | .ldyAbsolute _ | .ldyAbsoluteX _ => .ldy
  | .staZeroPage _ | .staZeroPageX _ | .staAbsolute _ | .staAbsoluteX _ | .staAbsoluteY _
  | .staIndexedIndirect _ | .staIndirectIndexed _ => .sta
  | .stxZeroPage _ | .stxZeroPageY _ | .stxAbsolute _ => .stx
  | .styZeroPage _ | .styZeroPageX _ | .styAbsolute _ => .sty
  | .tax => .tax
  | .tay => .tay
  | .txa => .txa
  | .tya => .tya
  | .tsx => .tsx
  | .txs => .txs
  | .adcImmediate _ | .adcZeroPage _ | .adcZeroPageX _ | .adcAbsolute _ | .adcAbsoluteX _ | .adcAbsoluteY _
  | .adcIndexedIndirect _ | .adcIndirectIndexed _ => .adc
  | .sbcImmediate _ | .sbcZeroPage _ | .sbcZeroPageX _ | .sbcAbsolute _ | .sbcAbsoluteX _ | .sbcAbsoluteY _
  | .sbcIndexedIndirect _ | .sbcIndirectIndexed _ => .sbc
  | .andImmediate _ | .andZeroPage _ | .andZeroPageX _ | .andAbsolute _ | .andAbsoluteX _ | .andAbsoluteY _
  | .andIndexedIndirect _ | .andIndirectIndexed _ => .and
  | .oraImmediate _ | .oraZeroPage _ | .oraZeroPageX _ | .oraAbsolute _ | .oraAbsoluteX _ | .oraAbsoluteY _
  | .oraIndexedIndirect _ | .oraIndirectIndexed _ => .ora
  | .eorImmediate _ | .eorZeroPage _ | .eorZeroPageX _ | .eorAbsolute _ | .eorAbsoluteX _ | .eorAbsoluteY _
  | .eorIndexedIndirect _ | .eorIndirectIndexed _ => .eor
  | .bitZeroPage _ | .bitAbsolute _ => .bit
  | .incZeroPage _ | .incZeroPageX _ | .incAbsolute _ | .incAbsoluteX _ => .inc
  | .decZeroPage _ | .decZeroPageX _ | .decAbsolute _ | .decAbsoluteX _ => .dec
  | .inx => .inx
  | .dex => .dex
  | .iny => .iny
  | .dey => .dey
  | .cmpImmediate _ | .cmpZeroPage _ | .cmpZeroPageX _ | .cmpAbsolute _ | .cmpAbsoluteX _ | .cmpAbsoluteY _
  | .cmpIndexedIndirect _ | .cmpIndirectIndexed _ => .cmp
  | .cpxImmediate _ | .cpxZeroPage _ | .cpxAbsolute _ => .cpx
  | .cpyImmediate _ | .cpyZeroPage _ | .cpyAbsolute _ => .cpy
  | .aslAccumulator | .aslZeroPage _ | .aslZeroPageX _ | .aslAbsolute _ | .aslAbsoluteX _ => .asl
  | .lsrAccumulator | .lsrZeroPage _ | .lsrZeroPageX _ | .lsrAbsolute _ | .lsrAbsoluteX _ => .lsr
  | .rolAccumulator | .rolZeroPage _ | .rolZeroPageX _ | .rolAbsolute _ | .rolAbsoluteX _ => .rol
  | .rorAccumulator | .rorZeroPage _ | .rorZeroPageX _ | .rorAbsolute _ | .rorAbsoluteX _ => .ror
  | .pha => .pha
  | .pla => .pla
  | .php => .php
  | .plp => .plp
  | .jmpAbsolute _ | .jmpIndirect _ => .jmp
  | .jsr _ => .jsr
  | .rts => .rts
  | .bcc _ => .bcc
  | .bcs _ => .bcs
  | .beq _ => .beq
  | .bne _ => .bne
  | .bpl _ => .bpl
  | .bmi _ => .bmi
  | .bvc _ => .bvc
  | .bvs _ => .bvs
  | .brk => .brk
  | .rti => .rti
  | .clc => .clc
  | .sec => .sec
  | .cli => .cli
  | .sei => .sei
  | .cld => .cld
  | .sed => .sed
  | .clv => .clv
  | .nop => .nop

/-- The addressing-mode column of the decode table with the instruction's operand bytes (30_encoding.md R95). -/
def Instr.operand : Instr → Operand
  | .ldaImmediate value => .immediate value
  | .ldaZeroPage addr => .addressed (.zeroPage addr)
  | .ldaZeroPageX addr => .addressed (.zeroPageX addr)
  | .ldaAbsolute addr => .addressed (.absolute addr)
  | .ldaAbsoluteX addr => .addressed (.absoluteX addr)
  | .ldaAbsoluteY addr => .addressed (.absoluteY addr)
  | .ldaIndexedIndirect ptr => .addressed (.indexedIndirect ptr)
  | .ldaIndirectIndexed ptr => .addressed (.indirectIndexed ptr)
  | .ldxImmediate value => .immediate value
  | .ldxZeroPage addr => .addressed (.zeroPage addr)
  | .ldxZeroPageY addr => .addressed (.zeroPageY addr)
  | .ldxAbsolute addr => .addressed (.absolute addr)
  | .ldxAbsoluteY addr => .addressed (.absoluteY addr)
  | .ldyImmediate value => .immediate value
  | .ldyZeroPage addr => .addressed (.zeroPage addr)
  | .ldyZeroPageX addr => .addressed (.zeroPageX addr)
  | .ldyAbsolute addr => .addressed (.absolute addr)
  | .ldyAbsoluteX addr => .addressed (.absoluteX addr)
  | .staZeroPage addr => .addressed (.zeroPage addr)
  | .staZeroPageX addr => .addressed (.zeroPageX addr)
  | .staAbsolute addr => .addressed (.absolute addr)
  | .staAbsoluteX addr => .addressed (.absoluteX addr)
  | .staAbsoluteY addr => .addressed (.absoluteY addr)
  | .staIndexedIndirect ptr => .addressed (.indexedIndirect ptr)
  | .staIndirectIndexed ptr => .addressed (.indirectIndexed ptr)
  | .stxZeroPage addr => .addressed (.zeroPage addr)
  | .stxZeroPageY addr => .addressed (.zeroPageY addr)
  | .stxAbsolute addr => .addressed (.absolute addr)
  | .styZeroPage addr => .addressed (.zeroPage addr)
  | .styZeroPageX addr => .addressed (.zeroPageX addr)
  | .styAbsolute addr => .addressed (.absolute addr)
  | .tax => .implied
  | .tay => .implied
  | .txa => .implied
  | .tya => .implied
  | .tsx => .implied
  | .txs => .implied
  | .adcImmediate value => .immediate value
  | .adcZeroPage addr => .addressed (.zeroPage addr)
  | .adcZeroPageX addr => .addressed (.zeroPageX addr)
  | .adcAbsolute addr => .addressed (.absolute addr)
  | .adcAbsoluteX addr => .addressed (.absoluteX addr)
  | .adcAbsoluteY addr => .addressed (.absoluteY addr)
  | .adcIndexedIndirect ptr => .addressed (.indexedIndirect ptr)
  | .adcIndirectIndexed ptr => .addressed (.indirectIndexed ptr)
  | .sbcImmediate value => .immediate value
  | .sbcZeroPage addr => .addressed (.zeroPage addr)
  | .sbcZeroPageX addr => .addressed (.zeroPageX addr)
  | .sbcAbsolute addr => .addressed (.absolute addr)
  | .sbcAbsoluteX addr => .addressed (.absoluteX addr)
  | .sbcAbsoluteY addr => .addressed (.absoluteY addr)
  | .sbcIndexedIndirect ptr => .addressed (.indexedIndirect ptr)
  | .sbcIndirectIndexed ptr => .addressed (.indirectIndexed ptr)
  | .andImmediate value => .immediate value
  | .andZeroPage addr => .addressed (.zeroPage addr)
  | .andZeroPageX addr => .addressed (.zeroPageX addr)
  | .andAbsolute addr => .addressed (.absolute addr)
  | .andAbsoluteX addr => .addressed (.absoluteX addr)
  | .andAbsoluteY addr => .addressed (.absoluteY addr)
  | .andIndexedIndirect ptr => .addressed (.indexedIndirect ptr)
  | .andIndirectIndexed ptr => .addressed (.indirectIndexed ptr)
  | .oraImmediate value => .immediate value
  | .oraZeroPage addr => .addressed (.zeroPage addr)
  | .oraZeroPageX addr => .addressed (.zeroPageX addr)
  | .oraAbsolute addr => .addressed (.absolute addr)
  | .oraAbsoluteX addr => .addressed (.absoluteX addr)
  | .oraAbsoluteY addr => .addressed (.absoluteY addr)
  | .oraIndexedIndirect ptr => .addressed (.indexedIndirect ptr)
  | .oraIndirectIndexed ptr => .addressed (.indirectIndexed ptr)
  | .eorImmediate value => .immediate value
  | .eorZeroPage addr => .addressed (.zeroPage addr)
  | .eorZeroPageX addr => .addressed (.zeroPageX addr)
  | .eorAbsolute addr => .addressed (.absolute addr)
  | .eorAbsoluteX addr => .addressed (.absoluteX addr)
  | .eorAbsoluteY addr => .addressed (.absoluteY addr)
  | .eorIndexedIndirect ptr => .addressed (.indexedIndirect ptr)
  | .eorIndirectIndexed ptr => .addressed (.indirectIndexed ptr)
  | .bitZeroPage addr => .addressed (.zeroPage addr)
  | .bitAbsolute addr => .addressed (.absolute addr)
  | .incZeroPage addr => .addressed (.zeroPage addr)
  | .incZeroPageX addr => .addressed (.zeroPageX addr)
  | .incAbsolute addr => .addressed (.absolute addr)
  | .incAbsoluteX addr => .addressed (.absoluteX addr)
  | .decZeroPage addr => .addressed (.zeroPage addr)
  | .decZeroPageX addr => .addressed (.zeroPageX addr)
  | .decAbsolute addr => .addressed (.absolute addr)
  | .decAbsoluteX addr => .addressed (.absoluteX addr)
  | .inx => .implied
  | .dex => .implied
  | .iny => .implied
  | .dey => .implied
  | .cmpImmediate value => .immediate value
  | .cmpZeroPage addr => .addressed (.zeroPage addr)
  | .cmpZeroPageX addr => .addressed (.zeroPageX addr)
  | .cmpAbsolute addr => .addressed (.absolute addr)
  | .cmpAbsoluteX addr => .addressed (.absoluteX addr)
  | .cmpAbsoluteY addr => .addressed (.absoluteY addr)
  | .cmpIndexedIndirect ptr => .addressed (.indexedIndirect ptr)
  | .cmpIndirectIndexed ptr => .addressed (.indirectIndexed ptr)
  | .cpxImmediate value => .immediate value
  | .cpxZeroPage addr => .addressed (.zeroPage addr)
  | .cpxAbsolute addr => .addressed (.absolute addr)
  | .cpyImmediate value => .immediate value
  | .cpyZeroPage addr => .addressed (.zeroPage addr)
  | .cpyAbsolute addr => .addressed (.absolute addr)
  | .aslAccumulator => .accumulator
  | .aslZeroPage addr => .addressed (.zeroPage addr)
  | .aslZeroPageX addr => .addressed (.zeroPageX addr)
  | .aslAbsolute addr => .addressed (.absolute addr)
  | .aslAbsoluteX addr => .addressed (.absoluteX addr)
  | .lsrAccumulator => .accumulator
  | .lsrZeroPage addr => .addressed (.zeroPage addr)
  | .lsrZeroPageX addr => .addressed (.zeroPageX addr)
  | .lsrAbsolute addr => .addressed (.absolute addr)
  | .lsrAbsoluteX addr => .addressed (.absoluteX addr)
  | .rolAccumulator => .accumulator
  | .rolZeroPage addr => .addressed (.zeroPage addr)
  | .rolZeroPageX addr => .addressed (.zeroPageX addr)
  | .rolAbsolute addr => .addressed (.absolute addr)
  | .rolAbsoluteX addr => .addressed (.absoluteX addr)
  | .rorAccumulator => .accumulator
  | .rorZeroPage addr => .addressed (.zeroPage addr)
  | .rorZeroPageX addr => .addressed (.zeroPageX addr)
  | .rorAbsolute addr => .addressed (.absolute addr)
  | .rorAbsoluteX addr => .addressed (.absoluteX addr)
  | .pha => .implied
  | .pla => .implied
  | .php => .implied
  | .plp => .implied
  | .jmpAbsolute addr => .addressed (.absolute addr)
  | .jmpIndirect ptr => .indirect ptr
  | .jsr addr => .addressed (.absolute addr)
  | .rts => .implied
  | .bcc disp => .relative disp
  | .bcs disp => .relative disp
  | .beq disp => .relative disp
  | .bne disp => .relative disp
  | .bpl disp => .relative disp
  | .bmi disp => .relative disp
  | .bvc disp => .relative disp
  | .bvs disp => .relative disp
  | .brk => .implied
  | .rti => .implied
  | .clc => .implied
  | .sec => .implied
  | .cli => .implied
  | .sei => .implied
  | .cld => .implied
  | .sed => .implied
  | .clv => .implied
  | .nop => .implied

/-- The instruction's length in bytes (30_encoding.md R80, R81). -/
def Instr.length (i : Instr) : Nat := i.operand.mode.length

end Sys2Proof
end

