-- ==== Sys2Proof/WellFormed.lean ====
section
/-! DEFINITION. Well-formedness: which addressing modes a mnemonic takes, the matrix of 30_encoding.md R95. The operand
fields of Instr are exactly as wide as their bytes and a constructor stands for a row of the decode table, so what is
left to check is that the pairing of mnemonic and mode is one of the matrix. -/

namespace Sys2Proof

/-- The modes of each mnemonic: the rows of the matrix "mnemonics against the modes they take" (30_encoding.md R95). -/
def Mnemonic.modes : Mnemonic → List Mode
  | .lda | .adc | .sbc | .and | .ora | .eor | .cmp =>
    [.immediate, .zeroPage, .zeroPageX, .absolute, .absoluteX, .absoluteY, .indexedIndirect, .indirectIndexed]
  | .ldx =>
    [.immediate, .zeroPage, .zeroPageY, .absolute, .absoluteY]
  | .ldy =>
    [.immediate, .zeroPage, .zeroPageX, .absolute, .absoluteX]
  | .sta =>
    [.zeroPage, .zeroPageX, .absolute, .absoluteX, .absoluteY, .indexedIndirect, .indirectIndexed]
  | .stx =>
    [.zeroPage, .zeroPageY, .absolute]
  | .sty =>
    [.zeroPage, .zeroPageX, .absolute]
  | .tax | .tay | .txa | .tya | .tsx | .txs | .inx | .dex | .iny | .dey | .pha | .pla | .php | .plp
  | .rts | .brk | .rti | .clc | .sec | .cli | .sei | .cld | .sed | .clv | .nop =>
    [.implied]
  | .bit =>
    [.zeroPage, .absolute]
  | .inc | .dec =>
    [.zeroPage, .zeroPageX, .absolute, .absoluteX]
  | .cpx | .cpy =>
    [.immediate, .zeroPage, .absolute]
  | .asl | .lsr | .rol | .ror =>
    [.accumulator, .zeroPage, .zeroPageX, .absolute, .absoluteX]
  | .jmp =>
    [.absolute, .indirect]
  | .jsr =>
    [.absolute]
  | .bcc | .bcs | .beq | .bne | .bpl | .bmi | .bvc | .bvs =>
    [.relative]

/-- A mnemonic with an operand, before it is known to be an instruction: `STA #$10` is a form and no instruction. -/
structure Form where
  mnemonic : Mnemonic
  operand : Operand
  deriving DecidableEq, Repr

/-- The pairing of mnemonic and addressing mode is one of the matrix (30_encoding.md R95). -/
def Form.wellFormed (f : Form) : Bool := decide (f.operand.mode ∈ f.mnemonic.modes)

/-- An instruction read as a form. -/
def Instr.form (i : Instr) : Form := { mnemonic := i.mnemonic, operand := i.operand }

/-- An instruction's well-formedness. It holds of every Instr (Sys2Proof.Laws.Pairing). -/
def Instr.wellFormed (i : Instr) : Bool := i.form.wellFormed

end Sys2Proof
end

