-- ==== Sys2Proof/Decode.lean ====
section
/-! DEFINITION. The decoder, total on any bytes (30_encoding.md R80 to R82, R95, R97), and after it the encoder. The
opcode byte values and the mnemonic-to-mode pairings are the spec's general knowledge (log 7). -/

namespace Sys2Proof

/-- The little-endian word of two bytes: `hi * 256 + lo` (00_scope.md R11, 20_memory.md R52). -/
def wordOfBytes (lo hi : Byte) : Word := hi ++ lo

/-- Bits 7 to 0 of a word (00_scope.md R11). -/
def lowByte (w : Word) : Byte := w.extractLsb' 0 8

/-- Bits 15 to 8 of a word (00_scope.md R11). -/
def highByte (w : Word) : Byte := w.extractLsb' 8 8

/-- The three formats (30_encoding.md R81): how the bytes after the opcode become the operand. -/
inductive Template where
  /-- F1: the opcode byte alone -/
  | f1 (instr : Instr)
  /-- F2: one operand byte, b1 -/
  | f2 (build : Byte → Instr)
  /-- F3: b1 is bits 7 to 0 and b2 bits 15 to 8 of a 16-bit operand -/
  | f3 (build : Word → Instr)

/-- A row of the decode table (30_encoding.md R95). -/
structure Row where
  opcode : Byte
  mnemonic : Mnemonic
  mode : Mode
  template : Template

/-- Rows of the decode table with opcode high nibble 0 (30_encoding.md R95). -/
def decodeRows0 : List Row := [
  ⟨0x00, .brk, .implied, .f1 .brk⟩,
  ⟨0x01, .ora, .indexedIndirect, .f2 .oraIndexedIndirect⟩,
  ⟨0x05, .ora, .zeroPage, .f2 .oraZeroPage⟩,
  ⟨0x06, .asl, .zeroPage, .f2 .aslZeroPage⟩,
  ⟨0x08, .php, .implied, .f1 .php⟩,
  ⟨0x09, .ora, .immediate, .f2 .oraImmediate⟩,
  ⟨0x0A, .asl, .accumulator, .f1 .aslAccumulator⟩,
  ⟨0x0D, .ora, .absolute, .f3 .oraAbsolute⟩,
  ⟨0x0E, .asl, .absolute, .f3 .aslAbsolute⟩]

/-- Rows of the decode table with opcode high nibble 1 (30_encoding.md R95). -/
def decodeRows1 : List Row := [
  ⟨0x10, .bpl, .relative, .f2 .bpl⟩,
  ⟨0x11, .ora, .indirectIndexed, .f2 .oraIndirectIndexed⟩,
  ⟨0x15, .ora, .zeroPageX, .f2 .oraZeroPageX⟩,
  ⟨0x16, .asl, .zeroPageX, .f2 .aslZeroPageX⟩,
  ⟨0x18, .clc, .implied, .f1 .clc⟩,
  ⟨0x19, .ora, .absoluteY, .f3 .oraAbsoluteY⟩,
  ⟨0x1D, .ora, .absoluteX, .f3 .oraAbsoluteX⟩,
  ⟨0x1E, .asl, .absoluteX, .f3 .aslAbsoluteX⟩]

/-- Rows of the decode table with opcode high nibble 2 (30_encoding.md R95). -/
def decodeRows2 : List Row := [
  ⟨0x20, .jsr, .absolute, .f3 .jsr⟩,
  ⟨0x21, .and, .indexedIndirect, .f2 .andIndexedIndirect⟩,
  ⟨0x24, .bit, .zeroPage, .f2 .bitZeroPage⟩,
  ⟨0x25, .and, .zeroPage, .f2 .andZeroPage⟩,
  ⟨0x26, .rol, .zeroPage, .f2 .rolZeroPage⟩,
  ⟨0x28, .plp, .implied, .f1 .plp⟩,
  ⟨0x29, .and, .immediate, .f2 .andImmediate⟩,
  ⟨0x2A, .rol, .accumulator, .f1 .rolAccumulator⟩,
  ⟨0x2C, .bit, .absolute, .f3 .bitAbsolute⟩,
  ⟨0x2D, .and, .absolute, .f3 .andAbsolute⟩,
  ⟨0x2E, .rol, .absolute, .f3 .rolAbsolute⟩]

/-- Rows of the decode table with opcode high nibble 3 (30_encoding.md R95). -/
def decodeRows3 : List Row := [
  ⟨0x30, .bmi, .relative, .f2 .bmi⟩,
  ⟨0x31, .and, .indirectIndexed, .f2 .andIndirectIndexed⟩,
  ⟨0x35, .and, .zeroPageX, .f2 .andZeroPageX⟩,
  ⟨0x36, .rol, .zeroPageX, .f2 .rolZeroPageX⟩,
  ⟨0x38, .sec, .implied, .f1 .sec⟩,
  ⟨0x39, .and, .absoluteY, .f3 .andAbsoluteY⟩,
  ⟨0x3D, .and, .absoluteX, .f3 .andAbsoluteX⟩,
  ⟨0x3E, .rol, .absoluteX, .f3 .rolAbsoluteX⟩]

/-- Rows of the decode table with opcode high nibble 4 (30_encoding.md R95). -/
def decodeRows4 : List Row := [
  ⟨0x40, .rti, .implied, .f1 .rti⟩,
  ⟨0x41, .eor, .indexedIndirect, .f2 .eorIndexedIndirect⟩,
  ⟨0x45, .eor, .zeroPage, .f2 .eorZeroPage⟩,
  ⟨0x46, .lsr, .zeroPage, .f2 .lsrZeroPage⟩,
  ⟨0x48, .pha, .implied, .f1 .pha⟩,
  ⟨0x49, .eor, .immediate, .f2 .eorImmediate⟩,
  ⟨0x4A, .lsr, .accumulator, .f1 .lsrAccumulator⟩,
  ⟨0x4C, .jmp, .absolute, .f3 .jmpAbsolute⟩,
  ⟨0x4D, .eor, .absolute, .f3 .eorAbsolute⟩,
  ⟨0x4E, .lsr, .absolute, .f3 .lsrAbsolute⟩]

/-- Rows of the decode table with opcode high nibble 5 (30_encoding.md R95). -/
def decodeRows5 : List Row := [
  ⟨0x50, .bvc, .relative, .f2 .bvc⟩,
  ⟨0x51, .eor, .indirectIndexed, .f2 .eorIndirectIndexed⟩,
  ⟨0x55, .eor, .zeroPageX, .f2 .eorZeroPageX⟩,
  ⟨0x56, .lsr, .zeroPageX, .f2 .lsrZeroPageX⟩,
  ⟨0x58, .cli, .implied, .f1 .cli⟩,
  ⟨0x59, .eor, .absoluteY, .f3 .eorAbsoluteY⟩,
  ⟨0x5D, .eor, .absoluteX, .f3 .eorAbsoluteX⟩,
  ⟨0x5E, .lsr, .absoluteX, .f3 .lsrAbsoluteX⟩]

/-- Rows of the decode table with opcode high nibble 6 (30_encoding.md R95). -/
def decodeRows6 : List Row := [
  ⟨0x60, .rts, .implied, .f1 .rts⟩,
  ⟨0x61, .adc, .indexedIndirect, .f2 .adcIndexedIndirect⟩,
  ⟨0x65, .adc, .zeroPage, .f2 .adcZeroPage⟩,
  ⟨0x66, .ror, .zeroPage, .f2 .rorZeroPage⟩,
  ⟨0x68, .pla, .implied, .f1 .pla⟩,
  ⟨0x69, .adc, .immediate, .f2 .adcImmediate⟩,
  ⟨0x6A, .ror, .accumulator, .f1 .rorAccumulator⟩,
  ⟨0x6C, .jmp, .indirect, .f3 .jmpIndirect⟩,
  ⟨0x6D, .adc, .absolute, .f3 .adcAbsolute⟩,
  ⟨0x6E, .ror, .absolute, .f3 .rorAbsolute⟩]

/-- Rows of the decode table with opcode high nibble 7 (30_encoding.md R95). -/
def decodeRows7 : List Row := [
  ⟨0x70, .bvs, .relative, .f2 .bvs⟩,
  ⟨0x71, .adc, .indirectIndexed, .f2 .adcIndirectIndexed⟩,
  ⟨0x75, .adc, .zeroPageX, .f2 .adcZeroPageX⟩,
  ⟨0x76, .ror, .zeroPageX, .f2 .rorZeroPageX⟩,
  ⟨0x78, .sei, .implied, .f1 .sei⟩,
  ⟨0x79, .adc, .absoluteY, .f3 .adcAbsoluteY⟩,
  ⟨0x7D, .adc, .absoluteX, .f3 .adcAbsoluteX⟩,
  ⟨0x7E, .ror, .absoluteX, .f3 .rorAbsoluteX⟩]

/-- Rows of the decode table with opcode high nibble 8 (30_encoding.md R95). -/
def decodeRows8 : List Row := [
  ⟨0x81, .sta, .indexedIndirect, .f2 .staIndexedIndirect⟩,
  ⟨0x84, .sty, .zeroPage, .f2 .styZeroPage⟩,
  ⟨0x85, .sta, .zeroPage, .f2 .staZeroPage⟩,
  ⟨0x86, .stx, .zeroPage, .f2 .stxZeroPage⟩,
  ⟨0x88, .dey, .implied, .f1 .dey⟩,
  ⟨0x8A, .txa, .implied, .f1 .txa⟩,
  ⟨0x8C, .sty, .absolute, .f3 .styAbsolute⟩,
  ⟨0x8D, .sta, .absolute, .f3 .staAbsolute⟩,
  ⟨0x8E, .stx, .absolute, .f3 .stxAbsolute⟩]

/-- Rows of the decode table with opcode high nibble 9 (30_encoding.md R95). -/
def decodeRows9 : List Row := [
  ⟨0x90, .bcc, .relative, .f2 .bcc⟩,
  ⟨0x91, .sta, .indirectIndexed, .f2 .staIndirectIndexed⟩,
  ⟨0x94, .sty, .zeroPageX, .f2 .styZeroPageX⟩,
  ⟨0x95, .sta, .zeroPageX, .f2 .staZeroPageX⟩,
  ⟨0x96, .stx, .zeroPageY, .f2 .stxZeroPageY⟩,
  ⟨0x98, .tya, .implied, .f1 .tya⟩,
  ⟨0x99, .sta, .absoluteY, .f3 .staAbsoluteY⟩,
  ⟨0x9A, .txs, .implied, .f1 .txs⟩,
  ⟨0x9D, .sta, .absoluteX, .f3 .staAbsoluteX⟩]

/-- Rows of the decode table with opcode high nibble A (30_encoding.md R95). -/
def decodeRowsA : List Row := [
  ⟨0xA0, .ldy, .immediate, .f2 .ldyImmediate⟩,
  ⟨0xA1, .lda, .indexedIndirect, .f2 .ldaIndexedIndirect⟩,
  ⟨0xA2, .ldx, .immediate, .f2 .ldxImmediate⟩,
  ⟨0xA4, .ldy, .zeroPage, .f2 .ldyZeroPage⟩,
  ⟨0xA5, .lda, .zeroPage, .f2 .ldaZeroPage⟩,
  ⟨0xA6, .ldx, .zeroPage, .f2 .ldxZeroPage⟩,
  ⟨0xA8, .tay, .implied, .f1 .tay⟩,
  ⟨0xA9, .lda, .immediate, .f2 .ldaImmediate⟩,
  ⟨0xAA, .tax, .implied, .f1 .tax⟩,
  ⟨0xAC, .ldy, .absolute, .f3 .ldyAbsolute⟩,
  ⟨0xAD, .lda, .absolute, .f3 .ldaAbsolute⟩,
  ⟨0xAE, .ldx, .absolute, .f3 .ldxAbsolute⟩]

/-- Rows of the decode table with opcode high nibble B (30_encoding.md R95). -/
def decodeRowsB : List Row := [
  ⟨0xB0, .bcs, .relative, .f2 .bcs⟩,
  ⟨0xB1, .lda, .indirectIndexed, .f2 .ldaIndirectIndexed⟩,
  ⟨0xB4, .ldy, .zeroPageX, .f2 .ldyZeroPageX⟩,
  ⟨0xB5, .lda, .zeroPageX, .f2 .ldaZeroPageX⟩,
  ⟨0xB6, .ldx, .zeroPageY, .f2 .ldxZeroPageY⟩,
  ⟨0xB8, .clv, .implied, .f1 .clv⟩,
  ⟨0xB9, .lda, .absoluteY, .f3 .ldaAbsoluteY⟩,
  ⟨0xBA, .tsx, .implied, .f1 .tsx⟩,
  ⟨0xBC, .ldy, .absoluteX, .f3 .ldyAbsoluteX⟩,
  ⟨0xBD, .lda, .absoluteX, .f3 .ldaAbsoluteX⟩,
  ⟨0xBE, .ldx, .absoluteY, .f3 .ldxAbsoluteY⟩]

/-- Rows of the decode table with opcode high nibble C (30_encoding.md R95). -/
def decodeRowsC : List Row := [
  ⟨0xC0, .cpy, .immediate, .f2 .cpyImmediate⟩,
  ⟨0xC1, .cmp, .indexedIndirect, .f2 .cmpIndexedIndirect⟩,
  ⟨0xC4, .cpy, .zeroPage, .f2 .cpyZeroPage⟩,
  ⟨0xC5, .cmp, .zeroPage, .f2 .cmpZeroPage⟩,
  ⟨0xC6, .dec, .zeroPage, .f2 .decZeroPage⟩,
  ⟨0xC8, .iny, .implied, .f1 .iny⟩,
  ⟨0xC9, .cmp, .immediate, .f2 .cmpImmediate⟩,
  ⟨0xCA, .dex, .implied, .f1 .dex⟩,
  ⟨0xCC, .cpy, .absolute, .f3 .cpyAbsolute⟩,
  ⟨0xCD, .cmp, .absolute, .f3 .cmpAbsolute⟩,
  ⟨0xCE, .dec, .absolute, .f3 .decAbsolute⟩]

/-- Rows of the decode table with opcode high nibble D (30_encoding.md R95). -/
def decodeRowsD : List Row := [
  ⟨0xD0, .bne, .relative, .f2 .bne⟩,
  ⟨0xD1, .cmp, .indirectIndexed, .f2 .cmpIndirectIndexed⟩,
  ⟨0xD5, .cmp, .zeroPageX, .f2 .cmpZeroPageX⟩,
  ⟨0xD6, .dec, .zeroPageX, .f2 .decZeroPageX⟩,
  ⟨0xD8, .cld, .implied, .f1 .cld⟩,
  ⟨0xD9, .cmp, .absoluteY, .f3 .cmpAbsoluteY⟩,
  ⟨0xDD, .cmp, .absoluteX, .f3 .cmpAbsoluteX⟩,
  ⟨0xDE, .dec, .absoluteX, .f3 .decAbsoluteX⟩]

/-- Rows of the decode table with opcode high nibble E (30_encoding.md R95). -/
def decodeRowsE : List Row := [
  ⟨0xE0, .cpx, .immediate, .f2 .cpxImmediate⟩,
  ⟨0xE1, .sbc, .indexedIndirect, .f2 .sbcIndexedIndirect⟩,
  ⟨0xE4, .cpx, .zeroPage, .f2 .cpxZeroPage⟩,
  ⟨0xE5, .sbc, .zeroPage, .f2 .sbcZeroPage⟩,
  ⟨0xE6, .inc, .zeroPage, .f2 .incZeroPage⟩,
  ⟨0xE8, .inx, .implied, .f1 .inx⟩,
  ⟨0xE9, .sbc, .immediate, .f2 .sbcImmediate⟩,
  ⟨0xEA, .nop, .implied, .f1 .nop⟩,
  ⟨0xEC, .cpx, .absolute, .f3 .cpxAbsolute⟩,
  ⟨0xED, .sbc, .absolute, .f3 .sbcAbsolute⟩,
  ⟨0xEE, .inc, .absolute, .f3 .incAbsolute⟩]

/-- Rows of the decode table with opcode high nibble F (30_encoding.md R95). -/
def decodeRowsF : List Row := [
  ⟨0xF0, .beq, .relative, .f2 .beq⟩,
  ⟨0xF1, .sbc, .indirectIndexed, .f2 .sbcIndirectIndexed⟩,
  ⟨0xF5, .sbc, .zeroPageX, .f2 .sbcZeroPageX⟩,
  ⟨0xF6, .inc, .zeroPageX, .f2 .incZeroPageX⟩,
  ⟨0xF8, .sed, .implied, .f1 .sed⟩,
  ⟨0xF9, .sbc, .absoluteY, .f3 .sbcAbsoluteY⟩,
  ⟨0xFD, .sbc, .absoluteX, .f3 .sbcAbsoluteX⟩,
  ⟨0xFE, .inc, .absoluteX, .f3 .incAbsoluteX⟩]

/-- The decode table: 151 rows (30_encoding.md R95). -/
def decodeTable : List Row :=
  decodeRows0 ++ decodeRows1 ++ decodeRows2 ++ decodeRows3 ++ decodeRows4 ++ decodeRows5 ++
  decodeRows6 ++ decodeRows7 ++ decodeRows8 ++ decodeRows9 ++ decodeRowsA ++ decodeRowsB ++
  decodeRowsC ++ decodeRowsD ++ decodeRowsE ++ decodeRowsF

/-- Look the opcode byte up whole (30_encoding.md R82). -/
def findRow (opcode : Byte) : Option Row := decodeTable.find? fun row => row.opcode == opcode

/-- How many bytes an instruction with this opcode takes, from the mode alone; an illegal opcode byte is fetched alone
(30_encoding.md R82, R97, R99). -/
def fetchLength (opcode : Byte) : Nat :=
  match findRow opcode with
  | some row => row.mode.length
  | none => 1

/-- Why a byte sequence gives no instruction. -/
inductive DecodeError where
  /-- there is no opcode byte -/
  | noBytes
  /-- the byte has no entry in the decode table (30_encoding.md R97) -/
  | unknownOpcode (opcode : Byte)
  /-- the sequence ends before the instruction's operand bytes do -/
  | truncated (opcode : Byte)
  deriving DecidableEq, Repr

/-- The decoder: the instruction at the head of a byte sequence, and the bytes after it (30_encoding.md R80 to R82). -/
def decode : List Byte → Except DecodeError (Instr × List Byte)
  | [] => .error .noBytes
  | opcode :: rest =>
    match findRow opcode with
    | none => .error (.unknownOpcode opcode)
    | some row =>
      match row.template, rest with
      | .f1 instr, _ => .ok (instr, rest)
      | .f2 build, b1 :: rest => .ok (build b1, rest)
      | .f3 build, b1 :: b2 :: rest => .ok (build (wordOfBytes b1 b2), rest)
      | .f2 _, [] => .error (.truncated opcode)
      | .f3 _, [] => .error (.truncated opcode)
      | .f3 _, [_] => .error (.truncated opcode)

/-- The longest instruction, in bytes (30_encoding.md R80). -/
def maxLength : Nat := 3

/-- The bytes of an opcode-table word: bit 0 of `w` is the least significant bit of the first byte, and every bit from
`nbits` up is 0. -/
def tableBytes (nbits w : Nat) : List Byte :=
  (List.range maxLength).map fun k => BitVec.ofNat 8 ((w % 2 ^ nbits) / 256 ^ k)

/-- What the decoder reads from an opcode-table word. -/
def decodeTableWord (nbits w : Nat) : Option Instr :=
  match decode (tableBytes nbits w) with
  | .ok (i, _) => some i
  | .error _ => none

/-- The opcode byte of an instruction (30_encoding.md R95, the "Encoding:" lines of the rules in files 41 to 49). -/
def Instr.opcode : Instr → Byte
  | .ldaImmediate _ => 0xA9
  | .ldaZeroPage _ => 0xA5
  | .ldaZeroPageX _ => 0xB5
  | .ldaAbsolute _ => 0xAD
  | .ldaAbsoluteX _ => 0xBD
  | .ldaAbsoluteY _ => 0xB9
  | .ldaIndexedIndirect _ => 0xA1
  | .ldaIndirectIndexed _ => 0xB1
  | .ldxImmediate _ => 0xA2
  | .ldxZeroPage _ => 0xA6
  | .ldxZeroPageY _ => 0xB6
  | .ldxAbsolute _ => 0xAE
  | .ldxAbsoluteY _ => 0xBE
  | .ldyImmediate _ => 0xA0
  | .ldyZeroPage _ => 0xA4
  | .ldyZeroPageX _ => 0xB4
  | .ldyAbsolute _ => 0xAC
  | .ldyAbsoluteX _ => 0xBC
  | .staZeroPage _ => 0x85
  | .staZeroPageX _ => 0x95
  | .staAbsolute _ => 0x8D
  | .staAbsoluteX _ => 0x9D
  | .staAbsoluteY _ => 0x99
  | .staIndexedIndirect _ => 0x81
  | .staIndirectIndexed _ => 0x91
  | .stxZeroPage _ => 0x86
  | .stxZeroPageY _ => 0x96
  | .stxAbsolute _ => 0x8E
  | .styZeroPage _ => 0x84
  | .styZeroPageX _ => 0x94
  | .styAbsolute _ => 0x8C
  | .tax => 0xAA
  | .tay => 0xA8
  | .txa => 0x8A
  | .tya => 0x98
  | .tsx => 0xBA
  | .txs => 0x9A
  | .adcImmediate _ => 0x69
  | .adcZeroPage _ => 0x65
  | .adcZeroPageX _ => 0x75
  | .adcAbsolute _ => 0x6D
  | .adcAbsoluteX _ => 0x7D
  | .adcAbsoluteY _ => 0x79
  | .adcIndexedIndirect _ => 0x61
  | .adcIndirectIndexed _ => 0x71
  | .sbcImmediate _ => 0xE9
  | .sbcZeroPage _ => 0xE5
  | .sbcZeroPageX _ => 0xF5
  | .sbcAbsolute _ => 0xED
  | .sbcAbsoluteX _ => 0xFD
  | .sbcAbsoluteY _ => 0xF9
  | .sbcIndexedIndirect _ => 0xE1
  | .sbcIndirectIndexed _ => 0xF1
  | .andImmediate _ => 0x29
  | .andZeroPage _ => 0x25
  | .andZeroPageX _ => 0x35
  | .andAbsolute _ => 0x2D
  | .andAbsoluteX _ => 0x3D
  | .andAbsoluteY _ => 0x39
  | .andIndexedIndirect _ => 0x21
  | .andIndirectIndexed _ => 0x31
  | .oraImmediate _ => 0x09
  | .oraZeroPage _ => 0x05
  | .oraZeroPageX _ => 0x15
  | .oraAbsolute _ => 0x0D
  | .oraAbsoluteX _ => 0x1D
  | .oraAbsoluteY _ => 0x19
  | .oraIndexedIndirect _ => 0x01
  | .oraIndirectIndexed _ => 0x11
  | .eorImmediate _ => 0x49
  | .eorZeroPage _ => 0x45
  | .eorZeroPageX _ => 0x55
  | .eorAbsolute _ => 0x4D
  | .eorAbsoluteX _ => 0x5D
  | .eorAbsoluteY _ => 0x59
  | .eorIndexedIndirect _ => 0x41
  | .eorIndirectIndexed _ => 0x51
  | .bitZeroPage _ => 0x24
  | .bitAbsolute _ => 0x2C
  | .incZeroPage _ => 0xE6
  | .incZeroPageX _ => 0xF6
  | .incAbsolute _ => 0xEE
  | .incAbsoluteX _ => 0xFE
  | .decZeroPage _ => 0xC6
  | .decZeroPageX _ => 0xD6
  | .decAbsolute _ => 0xCE
  | .decAbsoluteX _ => 0xDE
  | .inx => 0xE8
  | .dex => 0xCA
  | .iny => 0xC8
  | .dey => 0x88
  | .cmpImmediate _ => 0xC9
  | .cmpZeroPage _ => 0xC5
  | .cmpZeroPageX _ => 0xD5
  | .cmpAbsolute _ => 0xCD
  | .cmpAbsoluteX _ => 0xDD
  | .cmpAbsoluteY _ => 0xD9
  | .cmpIndexedIndirect _ => 0xC1
  | .cmpIndirectIndexed _ => 0xD1
  | .cpxImmediate _ => 0xE0
  | .cpxZeroPage _ => 0xE4
  | .cpxAbsolute _ => 0xEC
  | .cpyImmediate _ => 0xC0
  | .cpyZeroPage _ => 0xC4
  | .cpyAbsolute _ => 0xCC
  | .aslAccumulator => 0x0A
  | .aslZeroPage _ => 0x06
  | .aslZeroPageX _ => 0x16
  | .aslAbsolute _ => 0x0E
  | .aslAbsoluteX _ => 0x1E
  | .lsrAccumulator => 0x4A
  | .lsrZeroPage _ => 0x46
  | .lsrZeroPageX _ => 0x56
  | .lsrAbsolute _ => 0x4E
  | .lsrAbsoluteX _ => 0x5E
  | .rolAccumulator => 0x2A
  | .rolZeroPage _ => 0x26
  | .rolZeroPageX _ => 0x36
  | .rolAbsolute _ => 0x2E
  | .rolAbsoluteX _ => 0x3E
  | .rorAccumulator => 0x6A
  | .rorZeroPage _ => 0x66
  | .rorZeroPageX _ => 0x76
  | .rorAbsolute _ => 0x6E
  | .rorAbsoluteX _ => 0x7E
  | .pha => 0x48
  | .pla => 0x68
  | .php => 0x08
  | .plp => 0x28
  | .jmpAbsolute _ => 0x4C
  | .jmpIndirect _ => 0x6C
  | .jsr _ => 0x20
  | .rts => 0x60
  | .bcc _ => 0x90
  | .bcs _ => 0xB0
  | .beq _ => 0xF0
  | .bne _ => 0xD0
  | .bpl _ => 0x10
  | .bmi _ => 0x30
  | .bvc _ => 0x50
  | .bvs _ => 0x70
  | .brk => 0x00
  | .rti => 0x40
  | .clc => 0x18
  | .sec => 0x38
  | .cli => 0x58
  | .sei => 0x78
  | .cld => 0xD8
  | .sed => 0xF8
  | .clv => 0xB8
  | .nop => 0xEA

/-- The operand bytes of an address operand, in memory order (30_encoding.md R81). -/
def AddrMode.bytes : AddrMode → List Byte
  | .zeroPage addr | .zeroPageX addr | .zeroPageY addr => [addr]
  | .absolute addr | .absoluteX addr | .absoluteY addr => [lowByte addr, highByte addr]
  | .indexedIndirect ptr | .indirectIndexed ptr => [ptr]

/-- The operand bytes, in memory order (30_encoding.md R81). -/
def Operand.bytes : Operand → List Byte
  | .implied | .accumulator => []
  | .immediate value => [value]
  | .addressed mode => mode.bytes
  | .indirect ptr => [lowByte ptr, highByte ptr]
  | .relative disp => [disp]

/-- The encoder: the opcode byte, then the operand bytes (30_encoding.md R80, R81). -/
def encode (i : Instr) : List Byte := i.opcode :: i.operand.bytes

end Sys2Proof
end

