-- ==== Sys2Proof/Config.lean ====
section
/-! DEFINITION. The parameters the spec leaves to the implementation (00_scope.md R10): what one machine fixes and no
step changes. Every statement over all states holds for every value of them. -/

namespace Sys2Proof

/-- The seven flags whose values after reset the spec leaves open: the parameter RESET_FLAGS (00_scope.md R10,
10_state.md R41; 92_eei_decisions.md D5). -/
structure ResetFlags where
  /-- Carry -/
  c : Bool
  /-- Zero -/
  z : Bool
  /-- Interrupt-disable -/
  i : Bool
  /-- Decimal -/
  d : Bool
  /-- Break -/
  b : Bool
  /-- oVerflow -/
  v : Bool
  /-- Negative -/
  n : Bool
  deriving DecidableEq, Repr

/-- The open parameters of 00_scope.md R10. The fixed ones (widths, byte order, stack page, vectors, the decode table,
binary arithmetic, no interrupts) are in the definitions that use them. There is no field for UNDOCUMENTED_OPCODES: the
opt-in is refused (R10, 92_eei_decisions.md D2; log 24). -/
structure Config where
  /-- JMP_INDIRECT_PAGE_WRAP_BUG (30_encoding.md R96; 92_eei_decisions.md D3) -/
  jmpIndirectPageWrapBug : Bool
  /-- RESET_FLAGS (10_state.md R41) -/
  resetFlags : ResetFlags
  deriving DecidableEq, Repr

/-- The spec's defaults: the page-wrap bug on (D3) and, for a simulator, all seven flags 0 (D5).
DESIGN CHOICE (logs 2 and 4), unsafe for a claim that rests on these values. -/
def Config.default : Config where
  jmpIndirectPageWrapBug := true
  resetFlags := { c := false, z := false, i := false, d := false, b := false, v := false, n := false }

end Sys2Proof
end

