-- ==== Sys2Proof/Machine/State.lean ====
section
/-! DEFINITION. The machine's state as plain data, and the state after reset (10_state.md; 70_reset_and_hazards.md R300,
R301). The list is complete: 10_state.md R35, R38, R42. -/

namespace Sys2Proof.Machine

/-- The status register P: eight independent flags, all stored (10_state.md R26). -/
structure Flags where
  /-- Carry, bit 0 -/
  c : Bool
  /-- Zero, bit 1 -/
  z : Bool
  /-- Interrupt-disable, bit 2: stored, masks nothing (R32) -/
  i : Bool
  /-- Decimal, bit 3: stored, changes no arithmetic (R33) -/
  d : Bool
  /-- Break, bit 4: stored, read by no instruction (R34) -/
  b : Bool
  /-- Unused, bit 5: always 1 (R28) -/
  u : Bool
  /-- oVerflow, bit 6 -/
  v : Bool
  /-- Negative, bit 7 -/
  n : Bool
  deriving DecidableEq, Repr

/-- The fault record UnknownOpcode(byte, address) (10_state.md R36, 60_exceptions.md R262). -/
structure FaultRecord where
  byte : Byte
  address : Word
  deriving DecidableEq, Repr

/-- The run state; the fault record is there exactly while the core is Halted (10_state.md R36). -/
inductive RunState where
  | ready
  | halted (record : FaultRecord)
  deriving DecidableEq, Repr

/-- The bytes of memory that differ from what an unlisted address reads as, with their addresses, addresses rising
(20_memory.md R50; log 5). -/
abbrev Memory := List Host.Cell

/-- All state of the core, its memory (10_state.md R20 to R42), and the parameters it was built with. -/
structure State where
  /-- the accumulator (R20) -/
  a : Byte
  /-- index register X (R21) -/
  x : Byte
  /-- index register Y (R22) -/
  y : Byte
  /-- the stack pointer, an offset into page 0x0100 (R23) -/
  sp : Byte
  /-- the program counter: between steps, the address of the next opcode byte (R25) -/
  pc : Word
  /-- the status register (R26) -/
  p : Flags
  /-- the run state (R36) -/
  run : RunState
  /-- the 65536 bytes (R40) -/
  mem : Memory
  /-- The MODEL's own field: the open parameters of 00_scope.md R10, which no step and no reset changes.
  DESIGN CHOICE (log 3), safe: it makes every statement over all states one over all parameters. -/
  config : Config
  deriving DecidableEq, Repr

/-- Why a step stops. -/
inductive Fault where
  /-- Raised by a step of a Halted core: it reports the recorded UnknownOpcode(byte, address) again and changes nothing
  (10_state.md R37). Safe: the spec gives a Halted core no other behaviour. -/
  | unknownOpcode (byte : Byte) (address : Word)
  deriving DecidableEq, Repr

/-- What the model declines. -/
inductive Refusal where
  /-- An instruction without a meaning, by its mnemonic: raised by exec alone. Safe. No arm raises it. -/
  | notModelled (mnemonic : String)
  /-- Raised by the host's `load` when its bytes would pass 0xFFFF; nothing is written (20_memory.md R66;
  92_eei_decisions.md D30; log 22). Safe. -/
  | loadPastEnd
  deriving DecidableEq, Repr

/-- What an instruction or a step answers. -/
abbrev Result := Host.Outcome State Fault Refusal

/-- The state after the source's literal `reset()`: memory cleared, then the core reset, so PC is the word 0x0000 read
from the cleared vector (10_state.md R41, 70_reset_and_hazards.md R301). The seven flags of RESET_FLAGS are 0: DESIGN
CHOICE (log 2), unsafe for a claim that rests on them. -/
def State.reset : State where
  a := 0x00
  x := 0x00
  y := 0x00
  sp := 0xFF
  pc := 0x0000
  p := { c := false, z := false, i := false, d := false, b := false, u := true, v := false, n := false }
  run := .ready
  mem := []
  config := Config.default

end Sys2Proof.Machine
end

