-- ==== Sys2Proof/Machine/Flags.lean ====
section
/-! DEFINITION. FlagLogic: the pure flag functions (40_step_and_flag_primitives.md R120 to R124), and the packing of the
status byte (10_state.md R27, R29). -/

namespace Sys2Proof.Machine

/-- SetZN(v): `Z = (v == 0)`, `N = v[7]` (R120). -/
def Flags.setZN (p : Flags) (v : Byte) : Flags := { p with z := v == 0, n := v[7] }

/-- The packed status byte: `N*128 + V*64 + U*32 + B*16 + D*8 + I*4 + Z*2 + C` (10_state.md R27; the bit order is the
spec's derivation, DEDUCED, log 14). -/
def Flags.pack (p : Flags) : Byte :=
  BitVec.ofNat 8 (p.n.toNat * 128 + p.v.toNat * 64 + p.u.toNat * 32 + p.b.toNat * 16 + p.d.toNat * 8 + p.i.toNat * 4
    + p.z.toNat * 2 + p.c.toNat)

/-- `P <- v`: every flag from its bit, but U, which is 1 whatever bit 5 is (10_state.md R29; 90_conflicts.md C2;
DESIGN CHOICE of the spec, log 18). -/
def Flags.unpack (v : Byte) : Flags :=
  { c := v[0], z := v[1], i := v[2], d := v[3], b := v[4], u := true, v := v[6], n := v[7] }

/-- The status byte PHP and BRK push: `P | 0x30` (47_stack.md R212, 48_control_flow.md R231; log 10). -/
def Flags.pushed (p : Flags) : Byte := p.pack ||| 0x30

/-- What AddCore and SubCore return: the 8-bit result, the carry out and the signed overflow (R121). -/
structure AddResult where
  r : Byte
  cOut : Bool
  vOut : Bool
  deriving DecidableEq, Repr

/-- AddCore(a, m, c_in): the exact sum, narrowed (R121). -/
def addCore (a m : Byte) (cIn : Bool) : AddResult :=
  let sum := a.toNat + m.toNat + cIn.toNat
  let r := BitVec.ofNat 8 sum
  { r := r, cOut := decide (sum > 0xFF), vOut := ((~~~(a ^^^ m)) &&& (a ^^^ r) &&& 0x80) != 0 }

/-- SubCore(a, m, c_in) = AddCore(a, m ^ 0xFF, c_in) (R122). -/
def subCore (a m : Byte) (cIn : Bool) : AddResult := addCore a (m ^^^ 0xFF) cIn

/-- What CompareCore returns (R123). -/
structure CompareResult where
  c : Bool
  z : Bool
  n : Bool
  deriving DecidableEq, Repr

/-- CompareCore(reg, m): unsigned comparison, equality, and bit 7 of the wrapped difference (R123). -/
def compareCore (reg m : Byte) : CompareResult :=
  { c := decide (m.toNat ≤ reg.toNat), z := reg == m, n := (reg - m)[7] }

/-- What the four shift functions return: the result and the bit shifted out (R124). -/
structure ShiftResult where
  r : Byte
  cOut : Bool
  deriving DecidableEq, Repr

/-- AslCore(v): `(v << 1) mod 256`, carry out `v[7]` (R124). -/
def aslCore (v : Byte) : ShiftResult := { r := v <<< 1, cOut := v[7] }

/-- LsrCore(v): `v >> 1`, carry out `v[0]` (R124). -/
def lsrCore (v : Byte) : ShiftResult := { r := v >>> 1, cOut := v[0] }

/-- RolCore(v, c_in): the carry enters at bit 0 (R124; DEDUCED, log 14). -/
def rolCore (v : Byte) (cIn : Bool) : ShiftResult :=
  { r := (v <<< 1) ||| (BitVec.ofBool cIn).setWidth 8, cOut := v[7] }

/-- RorCore(v, c_in): the carry enters at bit 7 (R124; DEDUCED, log 14). -/
def rorCore (v : Byte) (cIn : Bool) : ShiftResult :=
  { r := (v >>> 1) ||| ((BitVec.ofBool cIn).setWidth 8 <<< 7), cOut := v[0] }

end Sys2Proof.Machine
end

