-- ==== Sys2Proof/Machine/Ops.lean ====
section
/-! DEFINITION. The named operations over memory and registers: byte and word accesses (20_memory.md R53 to R57), the
stack (R60 to R63), the advance of PC, taking the BRK trap and returning from it (48_control_flow.md R231, R232;
60_exceptions.md R264, R267), and the entry into Halted (60_exceptions.md R261). -/

namespace Sys2Proof.Machine

/-! ## Memory -/

/-- What an address with no entry in the list reads as: memory is zeroed at reset (20_memory.md R53,
70_reset_and_hazards.md R301; log 5). -/
def unlisted : Byte := 0x00

/-- The canonical form: addresses strictly rising, inside the address space, and no entry that an unlisted address would
read as. Memories that read alike are then equal. -/
abbrev Memory.wf (m : Memory) : Prop :=
  m.Pairwise (fun e f => e.1 < f.1) ∧ ∀ e ∈ m, e.1 < 65536 ∧ e.2 ≠ unlisted

/-- The byte at an address (20_memory.md R53). -/
def Memory.read : Memory → Nat → Byte
  | [], _ => unlisted
  | (k, v) :: m, addr => if addr = k then v else Memory.read m addr

/-- Put an entry in its place. -/
def Memory.insert : Memory → Nat → Byte → Memory
  | [], addr, v => [(addr, v)]
  | (k, w) :: m, addr, v =>
    if addr < k then (addr, v) :: (k, w) :: m
    else if addr = k then (addr, v) :: m
    else (k, w) :: Memory.insert m addr v

/-- Take an address's entry out. -/
def Memory.erase (m : Memory) (addr : Nat) : Memory := m.filter fun e => e.1 != addr

/-- Replace the byte at an address and no other (20_memory.md R54), keeping the canonical form. -/
def Memory.write (m : Memory) (addr : Nat) (v : Byte) : Memory :=
  if v = unlisted then m.erase addr else m.insert addr v

/-- MemRead(addr, 1) (20_memory.md R53). -/
def State.read (s : State) (addr : Word) : Byte := s.mem.read addr.toNat

/-- MemWrite(addr, 1, v) (20_memory.md R54). -/
def State.write (s : State) (addr : Word) (v : Byte) : State := { s with mem := s.mem.write addr.toNat v }

/-- MemRead16(addr): low byte first; the second address wraps mod 65536 (20_memory.md R55; DESIGN CHOICE of the spec,
log 19). -/
def State.read16 (s : State) (addr : Word) : Word := wordOfBytes (s.read addr) (s.read (addr + 1))

/-- MemRead16ZP(zp): both bytes from the zero page; the second address wraps mod 256 (20_memory.md R57). -/
def State.read16zp (s : State) (zp : Byte) : Word :=
  wordOfBytes (s.read (zp.setWidth 16)) (s.read ((zp + 1).setWidth 16))

/-! ## The stack -/

/-- The address SP designates: `0x0100 + SP` (10_state.md R23). -/
def stackAddr (sp : Byte) : Word := 0x0100 + sp.setWidth 16

/-- Push(v): write, then decrement SP mod 256 (20_memory.md R60). -/
def State.push (s : State) (v : Byte) : State := { s.write (stackAddr s.sp) v with sp := s.sp - 1 }

/-- The byte Pull() returns: the one at the incremented SP (20_memory.md R61). -/
def State.pulled (s : State) : Byte := s.read (stackAddr (s.sp + 1))

/-- The state Pull() leaves: SP incremented mod 256, memory as it was (20_memory.md R61). -/
def State.pull (s : State) : State := { s with sp := s.sp + 1 }

/-- Push16(w): the high byte, then the low byte (20_memory.md R62). -/
def State.push16 (s : State) (w : Word) : State := (s.push (highByte w)).push (lowByte w)

/-- The word Pull16() returns: low byte first (20_memory.md R63). -/
def State.pulled16 (s : State) : Word := wordOfBytes s.pulled s.pull.pulled

/-- The state Pull16() leaves (20_memory.md R63). -/
def State.pull16 (s : State) : State := s.pull.pull

/-! ## Registers -/

/-- The sequential advance of PC, `(pc0 + len) mod 65536` (40_step_and_flag_primitives.md R113). -/
def State.advance (s : State) (len : Nat) : State := { s with pc := s.pc + BitVec.ofNat 16 len }

/-- A control transfer, in place of the sequential advance (40_step_and_flag_primitives.md R113). -/
def State.jump (s : State) (target : Word) : State := { s with pc := target }

/-- `A <- v; SetZN(A)`. -/
def State.setA (s : State) (v : Byte) : State := { s with a := v, p := s.p.setZN v }

/-- `X <- v; SetZN(X)`. -/
def State.setX (s : State) (v : Byte) : State := { s with x := v, p := s.p.setZN v }

/-- `Y <- v; SetZN(Y)`. -/
def State.setY (s : State) (v : Byte) : State := { s with y := v, p := s.p.setZN v }

/-! ## The trap and its return -/

/-- The BRK vector's low byte stands here, its high byte at the next address (60_exceptions.md R265). -/
def brkVector : Word := 0xFFFE

/-- The reset vector (60_exceptions.md R265). -/
def resetVector : Word := 0xFFFC

/-- What the trap saves: the return address, then the status with bits 4 and 5 set, as it was before I is set
(48_control_flow.md R231, 60_exceptions.md R264). -/
def State.saveForTrap (s : State) (ret : Word) : State := (s.push16 ret).push s.p.pushed

/-- Taking the software trap with return address `ret`: save, set I, load PC from the vector, read last
(48_control_flow.md R231, 60_exceptions.md R264). The stored B and D stay (log 18). -/
def State.enterTrap (s : State) (ret : Word) : State :=
  let saved := s.saveForTrap ret
  { saved with p := { saved.p with i := true }, pc := saved.read16 brkVector }

/-- Returning from the trap: pull the status, then PC, to which nothing is added (48_control_flow.md R232,
60_exceptions.md R267). -/
def State.returnFromTrap (s : State) : State :=
  { s.pull.pull16 with p := Flags.unpack s.pulled, pc := s.pull.pulled16 }

/-- UnknownOpcode: the core becomes Halted with the record of the byte at PC and its address; nothing else changes
(60_exceptions.md R261). -/
def State.haltUnknownOpcode (s : State) : State := { s with run := .halted { byte := s.read s.pc, address := s.pc } }

end Sys2Proof.Machine
end

