-- ==== Sys2Proof/Machine/Operands.lean ====
section
/-! DEFINITION. The addressing resolver (30_encoding.md R83 to R96) and the operand value M
(40_step_and_flag_primitives.md R114). Of the resolver's five descriptors, `Imm` and `Addr` are `Source`, `Acc` and
`Addr` are `Place`, `Rel` is `branchTarget`, and `None` needs no type. Resolving changes no state (R83). -/

namespace Sys2Proof.Machine

/-- `sext_16(b)`: the byte read as two's complement, widened to 16 bits (00_scope.md R13). -/
def sext16 (b : Byte) : Word := b.signExtend 16

/-- `zext_16(b)` (00_scope.md R13). -/
def zext16 (b : Byte) : Word := b.setWidth 16

/-- The effective address `ea` of each mode (30_encoding.md R87 to R89, R91 to R94). For (zero page,X) the index is added
to the pointer's location, for (zero page),Y to its value (log 13). -/
def State.ea (s : State) : AddrMode → Word
  | .zeroPage addr => zext16 addr
  | .zeroPageX addr => zext16 (addr + s.x)
  | .zeroPageY addr => zext16 (addr + s.y)
  | .absolute addr => addr
  | .absoluteX addr => addr + zext16 s.x
  | .absoluteY addr => addr + zext16 s.y
  | .indexedIndirect ptr => s.read16zp (ptr + s.x)
  | .indirectIndexed ptr => s.read16zp ptr + zext16 s.y

/-- An operand an instruction reads only: `Imm(v)` or `Addr(ea)` (30_encoding.md R83). -/
inductive Source where
  | immediate (value : Byte)
  | addressed (mode : AddrMode)
  deriving DecidableEq, Repr

/-- The operand it is. -/
def Source.operand : Source → Operand
  | .immediate value => .immediate value
  | .addressed mode => .addressed mode

/-- The length of an instruction with this operand (30_encoding.md R81). -/
def Source.length (src : Source) : Nat := src.operand.mode.length

/-- M: the value itself, or one read of the effective address (40_step_and_flag_primitives.md R114). -/
def Source.value (src : Source) (s : State) : Byte :=
  match src with
  | .immediate value => value
  | .addressed mode => s.read (s.ea mode)

/-- An operand an instruction reads and writes: `Acc` or `Addr(ea)` (30_encoding.md R83, R85). -/
inductive Place where
  | accumulator
  | addressed (mode : AddrMode)
  deriving DecidableEq, Repr

/-- The operand it is. -/
def Place.operand : Place → Operand
  | .accumulator => .accumulator
  | .addressed mode => .addressed mode

/-- The length of an instruction with this operand (30_encoding.md R81). -/
def Place.length (place : Place) : Nat := place.operand.mode.length

/-- M: A, or one read of the effective address (40_step_and_flag_primitives.md R114). -/
def Place.value (place : Place) (s : State) : Byte :=
  match place with
  | .accumulator => s.a
  | .addressed mode => s.read (s.ea mode)

/-- "Writes the operand": A, or one write of the effective address (40_step_and_flag_primitives.md R114). -/
def Place.store (place : Place) (r : Byte) (s : State) : State :=
  match place with
  | .accumulator => { s with a := r }
  | .addressed mode => s.write (s.ea mode) r

/-- `Rel(target)`: the displacement counts from the end of the branch (30_encoding.md R90). -/
def branchTarget (pc0 : Word) (disp : Byte) : Word := pc0 + 2 + sext16 disp

/-- The address the high byte of an indirect jump's target is read from: with the page-wrap bug, the pointer's low byte
is incremented without carry (30_encoding.md R96; the address is the spec's general knowledge, log 12). -/
def State.indirectHighAddr (s : State) (ptr : Word) : Word :=
  if s.config.jmpIndirectPageWrapBug then wordOfBytes (lowByte ptr + 1) (highByte ptr) else ptr + 1

/-- The target of JMP indirect (30_encoding.md R96). -/
def State.indirectTarget (s : State) (ptr : Word) : Word :=
  wordOfBytes (s.read ptr) (s.read (s.indirectHighAddr ptr))

end Sys2Proof.Machine
end

