-- ==== Sys2Proof/Machine/Arithmetic.lean ====
section
/-! DEFINITION. ADC and SBC (42_arithmetic.md R160 to R162): binary whatever D holds (log 15). -/

namespace Sys2Proof.Machine

/-- `A <- r; P.C <- c_out; P.V <- v_out; SetZN(r)` (R160, R161). -/
def State.setAdd (s : State) (o : AddResult) : State :=
  { s with a := o.r, p := { s.p with c := o.cOut, v := o.vOut }.setZN o.r }

/-- ADC: AddCore of A, M and the carry (R160). -/
def adc (src : Source) (s : State) : Result :=
  .next ((s.advance src.length).setAdd (addCore s.a (src.value s) s.p.c))

/-- SBC: SubCore of A, M and the carry (R161). -/
def sbc (src : Source) (s : State) : Result :=
  .next ((s.advance src.length).setAdd (subCore s.a (src.value s) s.p.c))

/-- ADC immediate, opcode 0x69 (R160, R86). -/
def execAdcImmediate (value : Byte) (s : State) : Result := adc (.immediate value) s

/-- ADC zero page, opcode 0x65 (R160, R87). -/
def execAdcZeroPage (addr : Byte) (s : State) : Result := adc (.addressed (.zeroPage addr)) s

/-- ADC zero page,X, opcode 0x75 (R160, R88). -/
def execAdcZeroPageX (addr : Byte) (s : State) : Result := adc (.addressed (.zeroPageX addr)) s

/-- ADC absolute, opcode 0x6D (R160, R93). -/
def execAdcAbsolute (addr : Word) (s : State) : Result := adc (.addressed (.absolute addr)) s

/-- ADC absolute,X, opcode 0x7D (R160, R94). -/
def execAdcAbsoluteX (addr : Word) (s : State) : Result := adc (.addressed (.absoluteX addr)) s

/-- ADC absolute,Y, opcode 0x79 (R160, R94). -/
def execAdcAbsoluteY (addr : Word) (s : State) : Result := adc (.addressed (.absoluteY addr)) s

/-- ADC (zero page,X), opcode 0x61 (R160, R91). -/
def execAdcIndexedIndirect (ptr : Byte) (s : State) : Result := adc (.addressed (.indexedIndirect ptr)) s

/-- ADC (zero page),Y, opcode 0x71 (R160, R92). -/
def execAdcIndirectIndexed (ptr : Byte) (s : State) : Result := adc (.addressed (.indirectIndexed ptr)) s

/-- SBC immediate, opcode 0xE9 (R161, R86). -/
def execSbcImmediate (value : Byte) (s : State) : Result := sbc (.immediate value) s

/-- SBC zero page, opcode 0xE5 (R161, R87). -/
def execSbcZeroPage (addr : Byte) (s : State) : Result := sbc (.addressed (.zeroPage addr)) s

/-- SBC zero page,X, opcode 0xF5 (R161, R88). -/
def execSbcZeroPageX (addr : Byte) (s : State) : Result := sbc (.addressed (.zeroPageX addr)) s

/-- SBC absolute, opcode 0xED (R161, R93). -/
def execSbcAbsolute (addr : Word) (s : State) : Result := sbc (.addressed (.absolute addr)) s

/-- SBC absolute,X, opcode 0xFD (R161, R94). -/
def execSbcAbsoluteX (addr : Word) (s : State) : Result := sbc (.addressed (.absoluteX addr)) s

/-- SBC absolute,Y, opcode 0xF9 (R161, R94). -/
def execSbcAbsoluteY (addr : Word) (s : State) : Result := sbc (.addressed (.absoluteY addr)) s

/-- SBC (zero page,X), opcode 0xE1 (R161, R91). -/
def execSbcIndexedIndirect (ptr : Byte) (s : State) : Result := sbc (.addressed (.indexedIndirect ptr)) s

/-- SBC (zero page),Y, opcode 0xF1 (R161, R92). -/
def execSbcIndirectIndexed (ptr : Byte) (s : State) : Result := sbc (.addressed (.indirectIndexed ptr)) s

end Sys2Proof.Machine
end

