-- ==== Sys2Proof/Machine/Compare.lean ====
section
/-! DEFINITION. CMP, CPX and CPY (45_compare.md R190 to R192): C, Z and N; no register changes. -/

namespace Sys2Proof.Machine

/-- `P.C <- c; P.Z <- z; P.N <- n` of CompareCore(reg, M) (R190 to R192). -/
def compare (reg : Byte) (src : Source) (s : State) : Result :=
  let o := compareCore reg (src.value s)
  .next { s.advance src.length with p := { s.p with c := o.c, z := o.z, n := o.n } }

/-- CMP: compare A (R190). -/
def cmp (src : Source) (s : State) : Result := compare s.a src s

/-- CPX: compare X (R191). -/
def cpx (src : Source) (s : State) : Result := compare s.x src s

/-- CPY: compare Y (R192). -/
def cpy (src : Source) (s : State) : Result := compare s.y src s

/-- CMP immediate, opcode 0xC9 (R190, R86). -/
def execCmpImmediate (value : Byte) (s : State) : Result := cmp (.immediate value) s

/-- CMP zero page, opcode 0xC5 (R190, R87). -/
def execCmpZeroPage (addr : Byte) (s : State) : Result := cmp (.addressed (.zeroPage addr)) s

/-- CMP zero page,X, opcode 0xD5 (R190, R88). -/
def execCmpZeroPageX (addr : Byte) (s : State) : Result := cmp (.addressed (.zeroPageX addr)) s

/-- CMP absolute, opcode 0xCD (R190, R93). -/
def execCmpAbsolute (addr : Word) (s : State) : Result := cmp (.addressed (.absolute addr)) s

/-- CMP absolute,X, opcode 0xDD (R190, R94). -/
def execCmpAbsoluteX (addr : Word) (s : State) : Result := cmp (.addressed (.absoluteX addr)) s

/-- CMP absolute,Y, opcode 0xD9 (R190, R94). -/
def execCmpAbsoluteY (addr : Word) (s : State) : Result := cmp (.addressed (.absoluteY addr)) s

/-- CMP (zero page,X), opcode 0xC1 (R190, R91). -/
def execCmpIndexedIndirect (ptr : Byte) (s : State) : Result := cmp (.addressed (.indexedIndirect ptr)) s

/-- CMP (zero page),Y, opcode 0xD1 (R190, R92). -/
def execCmpIndirectIndexed (ptr : Byte) (s : State) : Result := cmp (.addressed (.indirectIndexed ptr)) s

/-- CPX immediate, opcode 0xE0 (R191, R86). -/
def execCpxImmediate (value : Byte) (s : State) : Result := cpx (.immediate value) s

/-- CPX zero page, opcode 0xE4 (R191, R87). -/
def execCpxZeroPage (addr : Byte) (s : State) : Result := cpx (.addressed (.zeroPage addr)) s

/-- CPX absolute, opcode 0xEC (R191, R93). -/
def execCpxAbsolute (addr : Word) (s : State) : Result := cpx (.addressed (.absolute addr)) s

/-- CPY immediate, opcode 0xC0 (R192, R86). -/
def execCpyImmediate (value : Byte) (s : State) : Result := cpy (.immediate value) s

/-- CPY zero page, opcode 0xC4 (R192, R87). -/
def execCpyZeroPage (addr : Byte) (s : State) : Result := cpy (.addressed (.zeroPage addr)) s

/-- CPY absolute, opcode 0xCC (R192, R93). -/
def execCpyAbsolute (addr : Word) (s : State) : Result := cpy (.addressed (.absolute addr)) s

end Sys2Proof.Machine
end

