-- ==== Sys2Proof/Machine/ControlFlow.lean ====
section
/-! DEFINITION. Jumps, subroutine linkage, branches, BRK and RTI (48_control_flow.md R220 to R232). Which
flag a branch tests, and how, is the spec's general knowledge (log 11). -/

namespace Sys2Proof.Machine

/-- JSR: push `pc0 + 2`, the address of its last byte, then `PC <- ea` (R221). -/
def callSubroutine (target : Word) (s : State) : Result := .next ((s.push16 (s.pc + 2)).jump target)

/-- RTS: `PC <- pulled + 1` (R222). -/
def returnFromSubroutine (s : State) : Result := .next (s.pull16.jump (s.pulled16 + 1))

/-- A branch: `PC <- target` when its condition holds, else `pc0 + 2`; nothing else changes (R223 to R230). -/
def branch (taken : Bool) (disp : Byte) (s : State) : Result :=
  .next (if taken then s.jump (branchTarget s.pc disp) else s.advance 2)

/-- JMP absolute, opcode 0x4C (R220, R93). -/
def execJmpAbsolute (addr : Word) (s : State) : Result := .next (s.jump addr)

/-- JMP indirect, opcode 0x6C (R220, R96). -/
def execJmpIndirect (ptr : Word) (s : State) : Result := .next (s.jump (s.indirectTarget ptr))

/-- JSR absolute, opcode 0x20 (R221, R93). -/
def execJsr (addr : Word) (s : State) : Result := callSubroutine addr s

/-- RTS, opcode 0x60 (R222). -/
def execRts (s : State) : Result := returnFromSubroutine s

/-- BCC relative, opcode 0x90 (R223, R90). -/
def execBcc (disp : Byte) (s : State) : Result := branch (!s.p.c) disp s

/-- BCS relative, opcode 0xB0 (R224, R90). -/
def execBcs (disp : Byte) (s : State) : Result := branch s.p.c disp s

/-- BEQ relative, opcode 0xF0 (R225, R90). -/
def execBeq (disp : Byte) (s : State) : Result := branch s.p.z disp s

/-- BNE relative, opcode 0xD0 (R226, R90). -/
def execBne (disp : Byte) (s : State) : Result := branch (!s.p.z) disp s

/-- BPL relative, opcode 0x10 (R227, R90). -/
def execBpl (disp : Byte) (s : State) : Result := branch (!s.p.n) disp s

/-- BMI relative, opcode 0x30 (R228, R90). -/
def execBmi (disp : Byte) (s : State) : Result := branch s.p.n disp s

/-- BVC relative, opcode 0x50 (R229, R90). -/
def execBvc (disp : Byte) (s : State) : Result := branch (!s.p.v) disp s

/-- BVS relative, opcode 0x70 (R230, R90). -/
def execBvs (disp : Byte) (s : State) : Result := branch s.p.v disp s

/-- BRK, opcode 0x00 (R231). -/
def execBrk (s : State) : Result := .next (s.enterTrap (s.pc + 2))

/-- RTI, opcode 0x40 (R232). -/
def execRti (s : State) : Result := .next s.returnFromTrap

end Sys2Proof.Machine
end

