-- ==== Sys2Proof/Machine/FlagNop.lean ====
section
/-! DEFINITION. The flag instructions and NOP (49_flag_nop.md R240 to R247), all of them the spec's general
knowledge (log 8). -/

namespace Sys2Proof.Machine

/-- CLC, opcode 0x18 (R240). -/
def execClc (s : State) : Result := .next { s.advance 1 with p := { s.p with c := false } }

/-- SEC, opcode 0x38 (R241). -/
def execSec (s : State) : Result := .next { s.advance 1 with p := { s.p with c := true } }

/-- CLI, opcode 0x58 (R242). -/
def execCli (s : State) : Result := .next { s.advance 1 with p := { s.p with i := false } }

/-- SEI, opcode 0x78 (R243). -/
def execSei (s : State) : Result := .next { s.advance 1 with p := { s.p with i := true } }

/-- CLD, opcode 0xD8 (R244). -/
def execCld (s : State) : Result := .next { s.advance 1 with p := { s.p with d := false } }

/-- SED, opcode 0xF8 (R245). -/
def execSed (s : State) : Result := .next { s.advance 1 with p := { s.p with d := true } }

/-- CLV, opcode 0xB8 (R246). -/
def execClv (s : State) : Result := .next { s.advance 1 with p := { s.p with v := false } }

/-- NOP, opcode 0xEA (R247). -/
def execNop (s : State) : Result := .next (s.advance 1)

end Sys2Proof.Machine
end

