-- ==== Sys2Proof/Machine/IncDec.lean ====
section
/-! DEFINITION. Increments and decrements (44_incdec.md R180 to R185): 8-bit wrapping, Z and N only. -/

namespace Sys2Proof.Machine

/-- Replace the byte at the effective address by `f` of it: one read, one write, Z and N (R180, R181). -/
def updateByte (f : Byte → Byte) (mode : AddrMode) (s : State) : Result :=
  let r := f (s.read (s.ea mode))
  let stored := (s.advance mode.mode.length).write (s.ea mode) r
  .next { stored with p := s.p.setZN r }

/-- INC: `(v + 1) mod 256` (R180). -/
def inc (mode : AddrMode) (s : State) : Result := updateByte (· + 1) mode s

/-- DEC: `(v - 1) mod 256` (R181). -/
def dec (mode : AddrMode) (s : State) : Result := updateByte (· - 1) mode s

/-- INC zero page, opcode 0xE6 (R180, R87). -/
def execIncZeroPage (addr : Byte) (s : State) : Result := inc (.zeroPage addr) s

/-- INC zero page,X, opcode 0xF6 (R180, R88). -/
def execIncZeroPageX (addr : Byte) (s : State) : Result := inc (.zeroPageX addr) s

/-- INC absolute, opcode 0xEE (R180, R93). -/
def execIncAbsolute (addr : Word) (s : State) : Result := inc (.absolute addr) s

/-- INC absolute,X, opcode 0xFE (R180, R94). -/
def execIncAbsoluteX (addr : Word) (s : State) : Result := inc (.absoluteX addr) s

/-- DEC zero page, opcode 0xC6 (R181, R87). -/
def execDecZeroPage (addr : Byte) (s : State) : Result := dec (.zeroPage addr) s

/-- DEC zero page,X, opcode 0xD6 (R181, R88). -/
def execDecZeroPageX (addr : Byte) (s : State) : Result := dec (.zeroPageX addr) s

/-- DEC absolute, opcode 0xCE (R181, R93). -/
def execDecAbsolute (addr : Word) (s : State) : Result := dec (.absolute addr) s

/-- DEC absolute,X, opcode 0xDE (R181, R94). -/
def execDecAbsoluteX (addr : Word) (s : State) : Result := dec (.absoluteX addr) s

/-- INX, opcode 0xE8 (R182). -/
def execInx (s : State) : Result := .next ((s.advance 1).setX (s.x + 1))

/-- DEX, opcode 0xCA (R183). -/
def execDex (s : State) : Result := .next ((s.advance 1).setX (s.x - 1))

/-- INY, opcode 0xC8 (R184). -/
def execIny (s : State) : Result := .next ((s.advance 1).setY (s.y + 1))

/-- DEY, opcode 0x88 (R185). -/
def execDey (s : State) : Result := .next ((s.advance 1).setY (s.y - 1))

end Sys2Proof.Machine
end

