-- ==== Sys2Proof/Machine/LoadStoreTransfer.lean ====
section
/-! DEFINITION. Loads, stores and transfers (41_load_store_transfer.md R140 to R151). The stores are the
spec's general knowledge (log 8). -/

namespace Sys2Proof.Machine

/-- LDA: `A <- M; SetZN(A)` (R140). -/
def lda (src : Source) (s : State) : Result := .next ((s.advance src.length).setA (src.value s))

/-- LDX: `X <- M; SetZN(X)` (R141). -/
def ldx (src : Source) (s : State) : Result := .next ((s.advance src.length).setX (src.value s))

/-- LDY: `Y <- M; SetZN(Y)` (R142). -/
def ldy (src : Source) (s : State) : Result := .next ((s.advance src.length).setY (src.value s))

/-- The three stores: `MemWrite(ea, 1, v)`; the target byte is not read, no flag changes (R143 to R145). -/
def storeByte (mode : AddrMode) (v : Byte) (s : State) : Result :=
  .next ((s.advance mode.mode.length).write (s.ea mode) v)

/-- STA: store A (R143). -/
def sta (mode : AddrMode) (s : State) : Result := storeByte mode s.a s

/-- STX: store X (R144). -/
def stx (mode : AddrMode) (s : State) : Result := storeByte mode s.x s

/-- STY: store Y (R145). -/
def sty (mode : AddrMode) (s : State) : Result := storeByte mode s.y s

/-- LDA immediate, opcode 0xA9 (R140, R86). -/
def execLdaImmediate (value : Byte) (s : State) : Result := lda (.immediate value) s

/-- LDA zero page, opcode 0xA5 (R140, R87). -/
def execLdaZeroPage (addr : Byte) (s : State) : Result := lda (.addressed (.zeroPage addr)) s

/-- LDA zero page,X, opcode 0xB5 (R140, R88). -/
def execLdaZeroPageX (addr : Byte) (s : State) : Result := lda (.addressed (.zeroPageX addr)) s

/-- LDA absolute, opcode 0xAD (R140, R93). -/
def execLdaAbsolute (addr : Word) (s : State) : Result := lda (.addressed (.absolute addr)) s

/-- LDA absolute,X, opcode 0xBD (R140, R94). -/
def execLdaAbsoluteX (addr : Word) (s : State) : Result := lda (.addressed (.absoluteX addr)) s

/-- LDA absolute,Y, opcode 0xB9 (R140, R94). -/
def execLdaAbsoluteY (addr : Word) (s : State) : Result := lda (.addressed (.absoluteY addr)) s

/-- LDA (zero page,X), opcode 0xA1 (R140, R91). -/
def execLdaIndexedIndirect (ptr : Byte) (s : State) : Result := lda (.addressed (.indexedIndirect ptr)) s

/-- LDA (zero page),Y, opcode 0xB1 (R140, R92). -/
def execLdaIndirectIndexed (ptr : Byte) (s : State) : Result := lda (.addressed (.indirectIndexed ptr)) s

/-- LDX immediate, opcode 0xA2 (R141, R86). -/
def execLdxImmediate (value : Byte) (s : State) : Result := ldx (.immediate value) s

/-- LDX zero page, opcode 0xA6 (R141, R87). -/
def execLdxZeroPage (addr : Byte) (s : State) : Result := ldx (.addressed (.zeroPage addr)) s

/-- LDX zero page,Y, opcode 0xB6 (R141, R89). -/
def execLdxZeroPageY (addr : Byte) (s : State) : Result := ldx (.addressed (.zeroPageY addr)) s

/-- LDX absolute, opcode 0xAE (R141, R93). -/
def execLdxAbsolute (addr : Word) (s : State) : Result := ldx (.addressed (.absolute addr)) s

/-- LDX absolute,Y, opcode 0xBE (R141, R94). -/
def execLdxAbsoluteY (addr : Word) (s : State) : Result := ldx (.addressed (.absoluteY addr)) s

/-- LDY immediate, opcode 0xA0 (R142, R86). -/
def execLdyImmediate (value : Byte) (s : State) : Result := ldy (.immediate value) s

/-- LDY zero page, opcode 0xA4 (R142, R87). -/
def execLdyZeroPage (addr : Byte) (s : State) : Result := ldy (.addressed (.zeroPage addr)) s

/-- LDY zero page,X, opcode 0xB4 (R142, R88). -/
def execLdyZeroPageX (addr : Byte) (s : State) : Result := ldy (.addressed (.zeroPageX addr)) s

/-- LDY absolute, opcode 0xAC (R142, R93). -/
def execLdyAbsolute (addr : Word) (s : State) : Result := ldy (.addressed (.absolute addr)) s

/-- LDY absolute,X, opcode 0xBC (R142, R94). -/
def execLdyAbsoluteX (addr : Word) (s : State) : Result := ldy (.addressed (.absoluteX addr)) s

/-- STA zero page, opcode 0x85 (R143, R87). -/
def execStaZeroPage (addr : Byte) (s : State) : Result := sta (.zeroPage addr) s

/-- STA zero page,X, opcode 0x95 (R143, R88). -/
def execStaZeroPageX (addr : Byte) (s : State) : Result := sta (.zeroPageX addr) s

/-- STA absolute, opcode 0x8D (R143, R93). -/
def execStaAbsolute (addr : Word) (s : State) : Result := sta (.absolute addr) s

/-- STA absolute,X, opcode 0x9D (R143, R94). -/
def execStaAbsoluteX (addr : Word) (s : State) : Result := sta (.absoluteX addr) s

/-- STA absolute,Y, opcode 0x99 (R143, R94). -/
def execStaAbsoluteY (addr : Word) (s : State) : Result := sta (.absoluteY addr) s

/-- STA (zero page,X), opcode 0x81 (R143, R91). -/
def execStaIndexedIndirect (ptr : Byte) (s : State) : Result := sta (.indexedIndirect ptr) s

/-- STA (zero page),Y, opcode 0x91 (R143, R92). -/
def execStaIndirectIndexed (ptr : Byte) (s : State) : Result := sta (.indirectIndexed ptr) s

/-- STX zero page, opcode 0x86 (R144, R87). -/
def execStxZeroPage (addr : Byte) (s : State) : Result := stx (.zeroPage addr) s

/-- STX zero page,Y, opcode 0x96 (R144, R89). -/
def execStxZeroPageY (addr : Byte) (s : State) : Result := stx (.zeroPageY addr) s

/-- STX absolute, opcode 0x8E (R144, R93). -/
def execStxAbsolute (addr : Word) (s : State) : Result := stx (.absolute addr) s

/-- STY zero page, opcode 0x84 (R145, R87). -/
def execStyZeroPage (addr : Byte) (s : State) : Result := sty (.zeroPage addr) s

/-- STY zero page,X, opcode 0x94 (R145, R88). -/
def execStyZeroPageX (addr : Byte) (s : State) : Result := sty (.zeroPageX addr) s

/-- STY absolute, opcode 0x8C (R145, R93). -/
def execStyAbsolute (addr : Word) (s : State) : Result := sty (.absolute addr) s

/-- TAX, opcode 0xAA (R146). -/
def execTax (s : State) : Result := .next ((s.advance 1).setX s.a)

/-- TAY, opcode 0xA8 (R147). -/
def execTay (s : State) : Result := .next ((s.advance 1).setY s.a)

/-- TXA, opcode 0x8A (R148). -/
def execTxa (s : State) : Result := .next ((s.advance 1).setA s.x)

/-- TYA, opcode 0x98 (R149). -/
def execTya (s : State) : Result := .next ((s.advance 1).setA s.y)

/-- TSX, opcode 0xBA (R150). -/
def execTsx (s : State) : Result := .next ((s.advance 1).setX s.sp)

/-- TXS, opcode 0x9A (R151). -/
def execTxs (s : State) : Result := .next { s.advance 1 with sp := s.x }

end Sys2Proof.Machine
end

