-- ==== Sys2Proof/Machine/Logic.lean ====
section
/-! DEFINITION. AND, ORA, EOR and BIT (43_logic.md R170 to R173). BIT is the spec's general knowledge
(log 8). -/

namespace Sys2Proof.Machine

/-- AND: `A <- A & M; SetZN(A)` (R170). -/
def andA (src : Source) (s : State) : Result := .next ((s.advance src.length).setA (s.a &&& src.value s))

/-- ORA: `A <- A | M; SetZN(A)` (R171). -/
def oraA (src : Source) (s : State) : Result := .next ((s.advance src.length).setA (s.a ||| src.value s))

/-- EOR: `A <- A ^ M; SetZN(A)` (R172). -/
def eorA (src : Source) (s : State) : Result := .next ((s.advance src.length).setA (s.a ^^^ src.value s))

/-- BIT: Z from `A & M`, N and V from bits 7 and 6 of M itself (R173). -/
def bitTest (mode : AddrMode) (s : State) : Result :=
  let m := s.read (s.ea mode)
  .next { s.advance mode.mode.length with p := { s.p with z := (s.a &&& m) == 0, n := m[7], v := m[6] } }

/-- AND immediate, opcode 0x29 (R170, R86). -/
def execAndImmediate (value : Byte) (s : State) : Result := andA (.immediate value) s

/-- AND zero page, opcode 0x25 (R170, R87). -/
def execAndZeroPage (addr : Byte) (s : State) : Result := andA (.addressed (.zeroPage addr)) s

/-- AND zero page,X, opcode 0x35 (R170, R88). -/
def execAndZeroPageX (addr : Byte) (s : State) : Result := andA (.addressed (.zeroPageX addr)) s

/-- AND absolute, opcode 0x2D (R170, R93). -/
def execAndAbsolute (addr : Word) (s : State) : Result := andA (.addressed (.absolute addr)) s

/-- AND absolute,X, opcode 0x3D (R170, R94). -/
def execAndAbsoluteX (addr : Word) (s : State) : Result := andA (.addressed (.absoluteX addr)) s

/-- AND absolute,Y, opcode 0x39 (R170, R94). -/
def execAndAbsoluteY (addr : Word) (s : State) : Result := andA (.addressed (.absoluteY addr)) s

/-- AND (zero page,X), opcode 0x21 (R170, R91). -/
def execAndIndexedIndirect (ptr : Byte) (s : State) : Result := andA (.addressed (.indexedIndirect ptr)) s

/-- AND (zero page),Y, opcode 0x31 (R170, R92). -/
def execAndIndirectIndexed (ptr : Byte) (s : State) : Result := andA (.addressed (.indirectIndexed ptr)) s

/-- ORA immediate, opcode 0x09 (R171, R86). -/
def execOraImmediate (value : Byte) (s : State) : Result := oraA (.immediate value) s

/-- ORA zero page, opcode 0x05 (R171, R87). -/
def execOraZeroPage (addr : Byte) (s : State) : Result := oraA (.addressed (.zeroPage addr)) s

/-- ORA zero page,X, opcode 0x15 (R171, R88). -/
def execOraZeroPageX (addr : Byte) (s : State) : Result := oraA (.addressed (.zeroPageX addr)) s

/-- ORA absolute, opcode 0x0D (R171, R93). -/
def execOraAbsolute (addr : Word) (s : State) : Result := oraA (.addressed (.absolute addr)) s

/-- ORA absolute,X, opcode 0x1D (R171, R94). -/
def execOraAbsoluteX (addr : Word) (s : State) : Result := oraA (.addressed (.absoluteX addr)) s

/-- ORA absolute,Y, opcode 0x19 (R171, R94). -/
def execOraAbsoluteY (addr : Word) (s : State) : Result := oraA (.addressed (.absoluteY addr)) s

/-- ORA (zero page,X), opcode 0x01 (R171, R91). -/
def execOraIndexedIndirect (ptr : Byte) (s : State) : Result := oraA (.addressed (.indexedIndirect ptr)) s

/-- ORA (zero page),Y, opcode 0x11 (R171, R92). -/
def execOraIndirectIndexed (ptr : Byte) (s : State) : Result := oraA (.addressed (.indirectIndexed ptr)) s

/-- EOR immediate, opcode 0x49 (R172, R86). -/
def execEorImmediate (value : Byte) (s : State) : Result := eorA (.immediate value) s

/-- EOR zero page, opcode 0x45 (R172, R87). -/
def execEorZeroPage (addr : Byte) (s : State) : Result := eorA (.addressed (.zeroPage addr)) s

/-- EOR zero page,X, opcode 0x55 (R172, R88). -/
def execEorZeroPageX (addr : Byte) (s : State) : Result := eorA (.addressed (.zeroPageX addr)) s

/-- EOR absolute, opcode 0x4D (R172, R93). -/
def execEorAbsolute (addr : Word) (s : State) : Result := eorA (.addressed (.absolute addr)) s

/-- EOR absolute,X, opcode 0x5D (R172, R94). -/
def execEorAbsoluteX (addr : Word) (s : State) : Result := eorA (.addressed (.absoluteX addr)) s

/-- EOR absolute,Y, opcode 0x59 (R172, R94). -/
def execEorAbsoluteY (addr : Word) (s : State) : Result := eorA (.addressed (.absoluteY addr)) s

/-- EOR (zero page,X), opcode 0x41 (R172, R91). -/
def execEorIndexedIndirect (ptr : Byte) (s : State) : Result := eorA (.addressed (.indexedIndirect ptr)) s

/-- EOR (zero page),Y, opcode 0x51 (R172, R92). -/
def execEorIndirectIndexed (ptr : Byte) (s : State) : Result := eorA (.addressed (.indirectIndexed ptr)) s

/-- BIT zero page, opcode 0x24 (R173, R87). -/
def execBitZeroPage (addr : Byte) (s : State) : Result := bitTest (.zeroPage addr) s

/-- BIT absolute, opcode 0x2C (R173, R93). -/
def execBitAbsolute (addr : Word) (s : State) : Result := bitTest (.absolute addr) s

end Sys2Proof.Machine
end

