-- ==== Sys2Proof/Machine/ShiftRotate.lean ====
section
/-! DEFINITION. ASL, LSR, ROL and ROR on A or on a byte of memory (46_shift_rotate.md R200 to R203). -/

namespace Sys2Proof.Machine

/-- Read the operand, write the result back, `P.C <- c_out; SetZN(r)` (R200 to R203). -/
def shiftPlace (core : Byte → ShiftResult) (place : Place) (s : State) : Result :=
  let o := core (place.value s)
  let stored := place.store o.r (s.advance place.length)
  .next { stored with p := { s.p with c := o.cOut }.setZN o.r }

/-- ASL (R200). -/
def asl (place : Place) (s : State) : Result := shiftPlace aslCore place s

/-- LSR (R201). -/
def lsr (place : Place) (s : State) : Result := shiftPlace lsrCore place s

/-- ROL: the carry from before the step enters at bit 0 (R202). -/
def rol (place : Place) (s : State) : Result := shiftPlace (rolCore · s.p.c) place s

/-- ROR: the carry from before the step enters at bit 7 (R203). -/
def ror (place : Place) (s : State) : Result := shiftPlace (rorCore · s.p.c) place s

/-- ASL accumulator, opcode 0x0A (R200). -/
def execAslAccumulator (s : State) : Result := asl .accumulator s

/-- ASL zero page, opcode 0x06 (R200, R87). -/
def execAslZeroPage (addr : Byte) (s : State) : Result := asl (.addressed (.zeroPage addr)) s

/-- ASL zero page,X, opcode 0x16 (R200, R88). -/
def execAslZeroPageX (addr : Byte) (s : State) : Result := asl (.addressed (.zeroPageX addr)) s

/-- ASL absolute, opcode 0x0E (R200, R93). -/
def execAslAbsolute (addr : Word) (s : State) : Result := asl (.addressed (.absolute addr)) s

/-- ASL absolute,X, opcode 0x1E (R200, R94). -/
def execAslAbsoluteX (addr : Word) (s : State) : Result := asl (.addressed (.absoluteX addr)) s

/-- LSR accumulator, opcode 0x4A (R201). -/
def execLsrAccumulator (s : State) : Result := lsr .accumulator s

/-- LSR zero page, opcode 0x46 (R201, R87). -/
def execLsrZeroPage (addr : Byte) (s : State) : Result := lsr (.addressed (.zeroPage addr)) s

/-- LSR zero page,X, opcode 0x56 (R201, R88). -/
def execLsrZeroPageX (addr : Byte) (s : State) : Result := lsr (.addressed (.zeroPageX addr)) s

/-- LSR absolute, opcode 0x4E (R201, R93). -/
def execLsrAbsolute (addr : Word) (s : State) : Result := lsr (.addressed (.absolute addr)) s

/-- LSR absolute,X, opcode 0x5E (R201, R94). -/
def execLsrAbsoluteX (addr : Word) (s : State) : Result := lsr (.addressed (.absoluteX addr)) s

/-- ROL accumulator, opcode 0x2A (R202). -/
def execRolAccumulator (s : State) : Result := rol .accumulator s

/-- ROL zero page, opcode 0x26 (R202, R87). -/
def execRolZeroPage (addr : Byte) (s : State) : Result := rol (.addressed (.zeroPage addr)) s

/-- ROL zero page,X, opcode 0x36 (R202, R88). -/
def execRolZeroPageX (addr : Byte) (s : State) : Result := rol (.addressed (.zeroPageX addr)) s

/-- ROL absolute, opcode 0x2E (R202, R93). -/
def execRolAbsolute (addr : Word) (s : State) : Result := rol (.addressed (.absolute addr)) s

/-- ROL absolute,X, opcode 0x3E (R202, R94). -/
def execRolAbsoluteX (addr : Word) (s : State) : Result := rol (.addressed (.absoluteX addr)) s

/-- ROR accumulator, opcode 0x6A (R203). -/
def execRorAccumulator (s : State) : Result := ror .accumulator s

/-- ROR zero page, opcode 0x66 (R203, R87). -/
def execRorZeroPage (addr : Byte) (s : State) : Result := ror (.addressed (.zeroPage addr)) s

/-- ROR zero page,X, opcode 0x76 (R203, R88). -/
def execRorZeroPageX (addr : Byte) (s : State) : Result := ror (.addressed (.zeroPageX addr)) s

/-- ROR absolute, opcode 0x6E (R203, R93). -/
def execRorAbsolute (addr : Word) (s : State) : Result := ror (.addressed (.absolute addr)) s

/-- ROR absolute,X, opcode 0x7E (R203, R94). -/
def execRorAbsoluteX (addr : Word) (s : State) : Result := ror (.addressed (.absoluteX addr)) s

end Sys2Proof.Machine
end

