-- ==== Sys2Proof/Machine/Stack.lean ====
section
/-! DEFINITION. PHA, PLA, PHP and PLP (47_stack.md R210 to R213). That PLA sets Z and N, and the bits PHP
forces, are the spec's general knowledge (logs 9 and 10). -/

namespace Sys2Proof.Machine

/-- PHA, opcode 0x48 (R210). -/
def execPha (s : State) : Result := .next ((s.advance 1).push s.a)

/-- PLA, opcode 0x68 (R211). -/
def execPla (s : State) : Result := .next ((s.advance 1).pull.setA s.pulled)

/-- PHP, opcode 0x08 (R212). -/
def execPhp (s : State) : Result := .next ((s.advance 1).push s.p.pushed)

/-- PLP, opcode 0x28 (R213). -/
def execPlp (s : State) : Result := .next { (s.advance 1).pull with p := Flags.unpack s.pulled }

end Sys2Proof.Machine
end

