-- ==== Sys2Proof/Machine/Dispatch.lean ====
section
/-! DEFINITION. The dispatch: one arm for each constructor of Instr, each a call of that instruction's own meaning
("one handler per mnemonic", 40_step_and_flag_primitives.md R110, R115). -/

namespace Sys2Proof.Machine

def exec (i : Instr) (s : State) : Host.Outcome State Fault Refusal :=
  match i with
  | .ldaImmediate value => Sys2Proof.Machine.execLdaImmediate value s
  | .ldaZeroPage addr => Sys2Proof.Machine.execLdaZeroPage addr s
  | .ldaZeroPageX addr => Sys2Proof.Machine.execLdaZeroPageX addr s
  | .ldaAbsolute addr => Sys2Proof.Machine.execLdaAbsolute addr s
  | .ldaAbsoluteX addr => Sys2Proof.Machine.execLdaAbsoluteX addr s
  | .ldaAbsoluteY addr => Sys2Proof.Machine.execLdaAbsoluteY addr s
  | .ldaIndexedIndirect ptr => Sys2Proof.Machine.execLdaIndexedIndirect ptr s
  | .ldaIndirectIndexed ptr => Sys2Proof.Machine.execLdaIndirectIndexed ptr s
  | .ldxImmediate value => Sys2Proof.Machine.execLdxImmediate value s
  | .ldxZeroPage addr => Sys2Proof.Machine.execLdxZeroPage addr s
  | .ldxZeroPageY addr => Sys2Proof.Machine.execLdxZeroPageY addr s
  | .ldxAbsolute addr => Sys2Proof.Machine.execLdxAbsolute addr s
  | .ldxAbsoluteY addr => Sys2Proof.Machine.execLdxAbsoluteY addr s
  | .ldyImmediate value => Sys2Proof.Machine.execLdyImmediate value s
  | .ldyZeroPage addr => Sys2Proof.Machine.execLdyZeroPage addr s
  | .ldyZeroPageX addr => Sys2Proof.Machine.execLdyZeroPageX addr s
  | .ldyAbsolute addr => Sys2Proof.Machine.execLdyAbsolute addr s
  | .ldyAbsoluteX addr => Sys2Proof.Machine.execLdyAbsoluteX addr s
  | .staZeroPage addr => Sys2Proof.Machine.execStaZeroPage addr s
  | .staZeroPageX addr => Sys2Proof.Machine.execStaZeroPageX addr s
  | .staAbsolute addr => Sys2Proof.Machine.execStaAbsolute addr s
  | .staAbsoluteX addr => Sys2Proof.Machine.execStaAbsoluteX addr s
  | .staAbsoluteY addr => Sys2Proof.Machine.execStaAbsoluteY addr s
  | .staIndexedIndirect ptr => Sys2Proof.Machine.execStaIndexedIndirect ptr s
  | .staIndirectIndexed ptr => Sys2Proof.Machine.execStaIndirectIndexed ptr s
  | .stxZeroPage addr => Sys2Proof.Machine.execStxZeroPage addr s
  | .stxZeroPageY addr => Sys2Proof.Machine.execStxZeroPageY addr s
  | .stxAbsolute addr => Sys2Proof.Machine.execStxAbsolute addr s
  | .styZeroPage addr => Sys2Proof.Machine.execStyZeroPage addr s
  | .styZeroPageX addr => Sys2Proof.Machine.execStyZeroPageX addr s
  | .styAbsolute addr => Sys2Proof.Machine.execStyAbsolute addr s
  | .tax => Sys2Proof.Machine.execTax s
  | .tay => Sys2Proof.Machine.execTay s
  | .txa => Sys2Proof.Machine.execTxa s
  | .tya => Sys2Proof.Machine.execTya s
  | .tsx => Sys2Proof.Machine.execTsx s
  | .txs => Sys2Proof.Machine.execTxs s
  | .adcImmediate value => Sys2Proof.Machine.execAdcImmediate value s
  | .adcZeroPage addr => Sys2Proof.Machine.execAdcZeroPage addr s
  | .adcZeroPageX addr => Sys2Proof.Machine.execAdcZeroPageX addr s
  | .adcAbsolute addr => Sys2Proof.Machine.execAdcAbsolute addr s
  | .adcAbsoluteX addr => Sys2Proof.Machine.execAdcAbsoluteX addr s
  | .adcAbsoluteY addr => Sys2Proof.Machine.execAdcAbsoluteY addr s
  | .adcIndexedIndirect ptr => Sys2Proof.Machine.execAdcIndexedIndirect ptr s
  | .adcIndirectIndexed ptr => Sys2Proof.Machine.execAdcIndirectIndexed ptr s
  | .sbcImmediate value => Sys2Proof.Machine.execSbcImmediate value s
  | .sbcZeroPage addr => Sys2Proof.Machine.execSbcZeroPage addr s
  | .sbcZeroPageX addr => Sys2Proof.Machine.execSbcZeroPageX addr s
  | .sbcAbsolute addr => Sys2Proof.Machine.execSbcAbsolute addr s
  | .sbcAbsoluteX addr => Sys2Proof.Machine.execSbcAbsoluteX addr s
  | .sbcAbsoluteY addr => Sys2Proof.Machine.execSbcAbsoluteY addr s
  | .sbcIndexedIndirect ptr => Sys2Proof.Machine.execSbcIndexedIndirect ptr s
  | .sbcIndirectIndexed ptr => Sys2Proof.Machine.execSbcIndirectIndexed ptr s
  | .andImmediate value => Sys2Proof.Machine.execAndImmediate value s
  | .andZeroPage addr => Sys2Proof.Machine.execAndZeroPage addr s
  | .andZeroPageX addr => Sys2Proof.Machine.execAndZeroPageX addr s
  | .andAbsolute addr => Sys2Proof.Machine.execAndAbsolute addr s
  | .andAbsoluteX addr => Sys2Proof.Machine.execAndAbsoluteX addr s
  | .andAbsoluteY addr => Sys2Proof.Machine.execAndAbsoluteY addr s
  | .andIndexedIndirect ptr => Sys2Proof.Machine.execAndIndexedIndirect ptr s
  | .andIndirectIndexed ptr => Sys2Proof.Machine.execAndIndirectIndexed ptr s
  | .oraImmediate value => Sys2Proof.Machine.execOraImmediate value s
  | .oraZeroPage addr => Sys2Proof.Machine.execOraZeroPage addr s
  | .oraZeroPageX addr => Sys2Proof.Machine.execOraZeroPageX addr s
  | .oraAbsolute addr => Sys2Proof.Machine.execOraAbsolute addr s
  | .oraAbsoluteX addr => Sys2Proof.Machine.execOraAbsoluteX addr s
  | .oraAbsoluteY addr => Sys2Proof.Machine.execOraAbsoluteY addr s
  | .oraIndexedIndirect ptr => Sys2Proof.Machine.execOraIndexedIndirect ptr s
  | .oraIndirectIndexed ptr => Sys2Proof.Machine.execOraIndirectIndexed ptr s
  | .eorImmediate value => Sys2Proof.Machine.execEorImmediate value s
  | .eorZeroPage addr => Sys2Proof.Machine.execEorZeroPage addr s
  | .eorZeroPageX addr => Sys2Proof.Machine.execEorZeroPageX addr s
  | .eorAbsolute addr => Sys2Proof.Machine.execEorAbsolute addr s
  | .eorAbsoluteX addr => Sys2Proof.Machine.execEorAbsoluteX addr s
  | .eorAbsoluteY addr => Sys2Proof.Machine.execEorAbsoluteY addr s
  | .eorIndexedIndirect ptr => Sys2Proof.Machine.execEorIndexedIndirect ptr s
  | .eorIndirectIndexed ptr => Sys2Proof.Machine.execEorIndirectIndexed ptr s
  | .bitZeroPage addr => Sys2Proof.Machine.execBitZeroPage addr s
  | .bitAbsolute addr => Sys2Proof.Machine.execBitAbsolute addr s
  | .incZeroPage addr => Sys2Proof.Machine.execIncZeroPage addr s
  | .incZeroPageX addr => Sys2Proof.Machine.execIncZeroPageX addr s
  | .incAbsolute addr => Sys2Proof.Machine.execIncAbsolute addr s
  | .incAbsoluteX addr => Sys2Proof.Machine.execIncAbsoluteX addr s
  | .decZeroPage addr => Sys2Proof.Machine.execDecZeroPage addr s
  | .decZeroPageX addr => Sys2Proof.Machine.execDecZeroPageX addr s
  | .decAbsolute addr => Sys2Proof.Machine.execDecAbsolute addr s
  | .decAbsoluteX addr => Sys2Proof.Machine.execDecAbsoluteX addr s
  | .inx => Sys2Proof.Machine.execInx s
  | .dex => Sys2Proof.Machine.execDex s
  | .iny => Sys2Proof.Machine.execIny s
  | .dey => Sys2Proof.Machine.execDey s
  | .cmpImmediate value => Sys2Proof.Machine.execCmpImmediate value s
  | .cmpZeroPage addr => Sys2Proof.Machine.execCmpZeroPage addr s
  | .cmpZeroPageX addr => Sys2Proof.Machine.execCmpZeroPageX addr s
  | .cmpAbsolute addr => Sys2Proof.Machine.execCmpAbsolute addr s
  | .cmpAbsoluteX addr => Sys2Proof.Machine.execCmpAbsoluteX addr s
  | .cmpAbsoluteY addr => Sys2Proof.Machine.execCmpAbsoluteY addr s
  | .cmpIndexedIndirect ptr => Sys2Proof.Machine.execCmpIndexedIndirect ptr s
  | .cmpIndirectIndexed ptr => Sys2Proof.Machine.execCmpIndirectIndexed ptr s
  | .cpxImmediate value => Sys2Proof.Machine.execCpxImmediate value s
  | .cpxZeroPage addr => Sys2Proof.Machine.execCpxZeroPage addr s
  | .cpxAbsolute addr => Sys2Proof.Machine.execCpxAbsolute addr s
  | .cpyImmediate value => Sys2Proof.Machine.execCpyImmediate value s
  | .cpyZeroPage addr => Sys2Proof.Machine.execCpyZeroPage addr s
  | .cpyAbsolute addr => Sys2Proof.Machine.execCpyAbsolute addr s
  | .aslAccumulator => Sys2Proof.Machine.execAslAccumulator s
  | .aslZeroPage addr => Sys2Proof.Machine.execAslZeroPage addr s
  | .aslZeroPageX addr => Sys2Proof.Machine.execAslZeroPageX addr s
  | .aslAbsolute addr => Sys2Proof.Machine.execAslAbsolute addr s
  | .aslAbsoluteX addr => Sys2Proof.Machine.execAslAbsoluteX addr s
  | .lsrAccumulator => Sys2Proof.Machine.execLsrAccumulator s
  | .lsrZeroPage addr => Sys2Proof.Machine.execLsrZeroPage addr s
  | .lsrZeroPageX addr => Sys2Proof.Machine.execLsrZeroPageX addr s
  | .lsrAbsolute addr => Sys2Proof.Machine.execLsrAbsolute addr s
  | .lsrAbsoluteX addr => Sys2Proof.Machine.execLsrAbsoluteX addr s
  | .rolAccumulator => Sys2Proof.Machine.execRolAccumulator s
  | .rolZeroPage addr => Sys2Proof.Machine.execRolZeroPage addr s
  | .rolZeroPageX addr => Sys2Proof.Machine.execRolZeroPageX addr s
  | .rolAbsolute addr => Sys2Proof.Machine.execRolAbsolute addr s
  | .rolAbsoluteX addr => Sys2Proof.Machine.execRolAbsoluteX addr s
  | .rorAccumulator => Sys2Proof.Machine.execRorAccumulator s
  | .rorZeroPage addr => Sys2Proof.Machine.execRorZeroPage addr s
  | .rorZeroPageX addr => Sys2Proof.Machine.execRorZeroPageX addr s
  | .rorAbsolute addr => Sys2Proof.Machine.execRorAbsolute addr s
  | .rorAbsoluteX addr => Sys2Proof.Machine.execRorAbsoluteX addr s
  | .pha => Sys2Proof.Machine.execPha s
  | .pla => Sys2Proof.Machine.execPla s
  | .php => Sys2Proof.Machine.execPhp s
  | .plp => Sys2Proof.Machine.execPlp s
  | .jmpAbsolute addr => Sys2Proof.Machine.execJmpAbsolute addr s
  | .jmpIndirect ptr => Sys2Proof.Machine.execJmpIndirect ptr s
  | .jsr addr => Sys2Proof.Machine.execJsr addr s
  | .rts => Sys2Proof.Machine.execRts s
  | .bcc disp => Sys2Proof.Machine.execBcc disp s
  | .bcs disp => Sys2Proof.Machine.execBcs disp s
  | .beq disp => Sys2Proof.Machine.execBeq disp s
  | .bne disp => Sys2Proof.Machine.execBne disp s
  | .bpl disp => Sys2Proof.Machine.execBpl disp s
  | .bmi disp => Sys2Proof.Machine.execBmi disp s
  | .bvc disp => Sys2Proof.Machine.execBvc disp s
  | .bvs disp => Sys2Proof.Machine.execBvs disp s
  | .brk => Sys2Proof.Machine.execBrk s
  | .rti => Sys2Proof.Machine.execRti s
  | .clc => Sys2Proof.Machine.execClc s
  | .sec => Sys2Proof.Machine.execSec s
  | .cli => Sys2Proof.Machine.execCli s
  | .sei => Sys2Proof.Machine.execSei s
  | .cld => Sys2Proof.Machine.execCld s
  | .sed => Sys2Proof.Machine.execSed s
  | .clv => Sys2Proof.Machine.execClv s
  | .nop => Sys2Proof.Machine.execNop s

end Sys2Proof.Machine
end

