-- ==== Sys2Proof/Machine/Fetch.lean ====
section
/-! DEFINITION. Fetching and decoding the instruction at PC (40_step_and_flag_primitives.md R110, R112). -/

namespace Sys2Proof.Machine

/-- `n` bytes at ascending addresses from `addr`, wrapping mod 65536 (30_encoding.md R80; R112). -/
def State.bytesFrom (s : State) (addr : Word) : Nat → List Byte
  | 0 => []
  | n + 1 => s.read addr :: s.bytesFrom (addr + 1) n

/-- The instruction at PC: the opcode byte, then as many operand bytes as its length says (R110, R112). -/
def State.fetch (s : State) : Except DecodeError Instr :=
  match decode (s.bytesFrom s.pc (fetchLength (s.read s.pc))) with
  | .ok (i, _) => .ok i
  | .error e => .error e

/-- Write bytes at ascending addresses from `addr`, wrapping mod 65536. -/
def State.writeBytes (s : State) (addr : Word) : List Byte → State
  | [] => s
  | b :: bytes => (s.write addr b).writeBytes (addr + 1) bytes

end Sys2Proof.Machine
end

