-- ==== Sys2Proof/Machine/Step.lean ====
section
/-! DEFINITION. One step of the machine (40_step_and_flag_primitives.md R110, R111). -/

namespace Sys2Proof.Machine

/-- Step(): a Halted core reports its record and changes nothing (10_state.md R37); a Ready core fetches, decodes and
executes one instruction, and at an opcode byte with no entry becomes Halted (60_exceptions.md R261). The transition into
Halted is a next state, which holds the error in its fault record; every later step is the fault. DESIGN CHOICE (log 1);
the result `step()` returns to the host is `State.stepCall`. -/
def step (s : State) : Host.Outcome State Fault Refusal :=
  match s.run with
  | .halted record => .fault (.unknownOpcode record.byte record.address)
  | .ready =>
    match s.fetch with
    | .ok i => exec i s
    | .error _ => .next s.haltUnknownOpcode

/-- `s` with an opcode-table word at PC, and Ready, so that the next step runs it (log 26). -/
def State.withFetchWord (s : State) (nbits w : Nat) : State :=
  { s with run := .ready }.writeBytes s.pc (tableBytes nbits w)

end Sys2Proof.Machine
end

