-- ==== Sys2Proof/Machine/HostInterface.lean ====
section
/-! DEFINITION. The transactions of the host (00_scope.md R6, R8; 20_memory.md R66 to R68; 70_reset_and_hazards.md R300,
R301; 60_exceptions.md R282). Each is a function of the state between steps (log 23). -/

namespace Sys2Proof.Machine

/-- The flags after a core reset: RESET_FLAGS, and U = 1 (70_reset_and_hazards.md R300). -/
def resetFlags (f : ResetFlags) : Flags :=
  { c := f.c, z := f.z, i := f.i, d := f.d, b := f.b, u := true, v := f.v, n := f.n }

/-- ClearMemory(): every byte 0x00 (70_reset_and_hazards.md R301). -/
def State.clearMemory (s : State) : State := { s with mem := [] }

/-- CoreReset(): the registers, the flags, the run state, and PC from the reset vector; memory is read and not written
(70_reset_and_hazards.md R300). It may be applied in any run state. -/
def State.coreReset (s : State) : State :=
  { s with a := 0x00, x := 0x00, y := 0x00, sp := 0xFF, p := resetFlags s.config.resetFlags, run := .ready,
           pc := s.read16 resetVector }

/-- `reset()`: ClearMemory(), then CoreReset() (70_reset_and_hazards.md R301). -/
def State.hostReset (s : State) : State := s.clearMemory.coreReset

/-- `load(address, bytes)`: refused, with nothing written, when it would pass the end of memory (20_memory.md R66;
log 22). -/
def State.load (s : State) (addr : Word) (bytes : List Byte) : Result :=
  if addr.toNat + bytes.length ≤ 65536 then .next (s.writeBytes addr bytes) else .refused .loadPastEnd

/-- `read8(address)` (20_memory.md R53, R67). -/
def State.read8 (s : State) (addr : Word) : Byte := s.read addr

/-- `write8(address, byte)` (20_memory.md R54, R67). -/
def State.write8 (s : State) (addr : Word) (v : Byte) : State := s.write addr v

/-- What `step()` returns to the host: Ok, or UnknownOpcode(byte, address) (00_scope.md R8). -/
inductive StepResult where
  | ok
  | unknownOpcode (byte : Byte) (address : Word)
  deriving DecidableEq, Repr

/-- The result of a step that left this run state: Ready is Ok, Halted is its record (40_step_and_flag_primitives.md
R110). -/
def RunState.result : RunState → StepResult
  | .ready => .ok
  | .halted record => .unknownOpcode record.byte record.address

/-- `step()` as the host sees it: its result and the state it leaves (40_step_and_flag_primitives.md R110). A step that
does not answer a next state changes nothing (10_state.md R37). -/
def State.stepCall (s : State) : StepResult × State :=
  match step s with
  | .next t => (t.run.result, t)
  | .fault _ | .refused _ => (s.run.result, s)

/-- The read-only snapshot (60_exceptions.md R282): the registers, the packed byte with the stored B, and the run state
with its record (log 29). -/
structure Snapshot where
  a : Byte
  x : Byte
  y : Byte
  sp : Byte
  pc : Word
  p : Byte
  run : RunState
  deriving DecidableEq, Repr

/-- Take the snapshot; nothing changes (60_exceptions.md R282). -/
def State.snapshot (s : State) : Snapshot :=
  { a := s.a, x := s.x, y := s.y, sp := s.sp, pc := s.pc, p := s.p.pack, run := s.run }

/-- `bootLoad`'s step for one piece of the image: a refused load ends the boot. -/
def bootPiece (r : Result) (piece : Word × List Byte) : Result :=
  match r with
  | .next s => s.load piece.1 piece.2
  | .fault f => .fault f
  | .refused f => .refused f

/-- The boot sequence of 70_reset_and_hazards.md R303: clear memory, load each piece of the image (the vectors among
them), core reset. -/
def State.boot (s : State) (image : List (Word × List Byte)) : Result :=
  match image.foldl bootPiece (.next s.clearMemory) with
  | .next t => .next t.coreReset
  | .fault f => .fault f
  | .refused f => .refused f

end Sys2Proof.Machine
end

