-- ==== Sys2Proof/Safety.lean ====
section
/-! DEFINITION. What counts as a safe run, in the terms claims use: no UnknownOpcode on the path (60_exceptions.md R273),
the end of a run as the launch gives it (70_reset_and_hazards.md R309), and the invariants of the machine. -/

namespace Sys2Proof.Machine

/-- U is 1 (10_state.md R28) and memory is in its canonical form. -/
def State.Inv (s : State) : Prop := s.p.u = true ∧ s.mem.wf

/-- A Halted core's record is of the byte at PC, that byte is no opcode, and its address is PC (60_exceptions.md R261,
R266). -/
def State.HaltedInv (s : State) : Prop :=
  match s.run with
  | .ready => True
  | .halted record => record.address = s.pc ∧ record.byte = s.read s.pc ∧ findRow record.byte = none

/-- `n` steps answer next states, all of them Ready: no UnknownOpcode on the path (60_exceptions.md R273). -/
def State.SafeRun (s : State) : Nat → Prop
  | 0 => s.run = .ready
  | n + 1 => s.run = .ready ∧ ∃ t, step s = .next t ∧ t.SafeRun n

/-- The run ends well: within `n` safe steps a state meets END_OF_RUN, which the launch gives (70_reset_and_hazards.md
R309; log 25). -/
def State.EndsBy (s : State) (endOfRun : State → Prop) : Nat → Prop
  | 0 => s.run = .ready ∧ endOfRun s
  | n + 1 => s.run = .ready ∧ (endOfRun s ∨ ∃ t, step s = .next t ∧ t.EndsBy endOfRun n)

end Sys2Proof.Machine
end

