-- ==== Sys2Proof/Certificates/Slice0/Obligations.lean ====
section
/-! DEFINITION. The statements for the provers, each a definition Obligations.<Name> : Prop; OBLIGATIONS.json lists them
with the rules of spec/ they formalise. No statement assumes a value of the parameters in config or rests on the values
State.reset takes for RESET_FLAGS, but for the last clause of LiteralResetClearsMemory, which says so. -/

namespace Sys2Proof.Claims

open Sys2Proof.Machine

/-- The 105 illegal opcode bytes, as 30_encoding.md R97 lists them. -/
def illegalOpcodes : List Byte := [
  0x02, 0x03, 0x04, 0x07, 0x0B, 0x0C, 0x0F, 0x12, 0x13, 0x14, 0x17, 0x1A, 0x1B, 0x1C, 0x1F,
  0x22, 0x23, 0x27, 0x2B, 0x2F, 0x32, 0x33, 0x34, 0x37, 0x3A, 0x3B, 0x3C, 0x3F, 0x42, 0x43,
  0x44, 0x47, 0x4B, 0x4F, 0x52, 0x53, 0x54, 0x57, 0x5A, 0x5B, 0x5C, 0x5F, 0x62, 0x63, 0x64,
  0x67, 0x6B, 0x6F, 0x72, 0x73, 0x74, 0x77, 0x7A, 0x7B, 0x7C, 0x7F, 0x80, 0x82, 0x83, 0x87,
  0x89, 0x8B, 0x8F, 0x92, 0x93, 0x97, 0x9B, 0x9C, 0x9E, 0x9F, 0xA3, 0xA7, 0xAB, 0xAF, 0xB2,
  0xB3, 0xB7, 0xBB, 0xBF, 0xC2, 0xC3, 0xC7, 0xCB, 0xCF, 0xD2, 0xD3, 0xD4, 0xD7, 0xDA, 0xDB,
  0xDC, 0xDF, 0xE2, 0xE3, 0xE7, 0xEB, 0xEF, 0xF2, 0xF3, 0xF4, 0xF7, 0xFA, 0xFB, 0xFC, 0xFF]

/-- The operand value M (40_step_and_flag_primitives.md R114): `v` for an immediate, one read of the effective address
for an address, A for the accumulator; the other operands have none. -/
def operandValue (s : State) : Operand → Option Byte
  | .immediate value => some value
  | .addressed mode => some (s.read (s.ea mode))
  | .accumulator => some s.a
  | .implied | .indirect _ | .relative _ => none

/-- `pc_next`: the address after the instruction (40_step_and_flag_primitives.md R113). -/
def pcNext (i : Instr) (s : State) : Word := s.pc + BitVec.ofNat 16 i.length

/-- The flags after `SetZN(v)` (40_step_and_flag_primitives.md R120). -/
def withZN (p : Flags) (v : Byte) : Flags := { p with z := decide (v = 0), n := decide (128 ≤ v.toNat) }

/-- The byte at `addr` is `v` in `t`, and every other byte is as in `s`. -/
def OneByteWritten (s t : State) (addr : Word) (v : Byte) : Prop :=
  t.read addr = v ∧ ∀ other, other ≠ addr → t.read other = s.read other

/-- When each branch is taken (48_control_flow.md, the table of R223 to R230). -/
def branchTaken (p : Flags) : Mnemonic → Option Bool
  | .bcc => some !p.c
  | .bcs => some p.c
  | .beq => some p.z
  | .bne => some !p.z
  | .bpl => some !p.n
  | .bmi => some p.n
  | .bvc => some !p.v
  | .bvs => some p.v
  | _ => none

/-- The mnemonics of the shifts and rotates. -/
def shifts : List Mnemonic := [.asl, .lsr, .rol, .ror]

/-- The eight branches. -/
def branches : List Mnemonic := [.bcc, .bcs, .beq, .bne, .bpl, .bmi, .bvc, .bvs]

/-- The addresses an instruction stores to, computed from the state before it as its rule computes them: the effective
address of a store or a read-modify-write, and the stack locations of the pushes. -/
def storedAddresses (i : Instr) (s : State) : List Word :=
  match i.mnemonic, i.operand with
  | .sta, .addressed mode | .stx, .addressed mode | .sty, .addressed mode => [s.ea mode]
  | .inc, .addressed mode | .dec, .addressed mode => [s.ea mode]
  | .asl, .addressed mode | .lsr, .addressed mode | .rol, .addressed mode | .ror, .addressed mode => [s.ea mode]
  | .pha, _ | .php, _ => [stackAddr s.sp]
  | .jsr, _ => [stackAddr s.sp, stackAddr (s.sp - 1)]
  | .brk, _ => [stackAddr s.sp, stackAddr (s.sp - 1), stackAddr (s.sp - 2)]
  | _, _ => []

/-- `n` steps are each exec of BRK from a state that is Ready with PC = 0x0000, and so is the state after the last
(70_reset_and_hazards.md R304). -/
def BrkAtZero (s : State) : Nat → Prop
  | 0 => s.run = .ready ∧ s.pc = 0x0000
  | n + 1 => s.run = .ready ∧ s.pc = 0x0000 ∧ ∃ t, step s = exec .brk s ∧ exec .brk s = .next t ∧ BrkAtZero t n

end Sys2Proof.Claims

open Sys2Proof Sys2Proof.Machine Sys2Proof.Claims

/-- For every instruction and every byte sequence after it, decode of (encode i ++ rest) is i with rest left over: all
151 constructors, every operand value. Every Instr is well-formed. The opcode bytes are the spec's general knowledge
(log 7). -/
def Obligations.DecodeOfEncodeIsTheInstruction : Prop :=
  ∀ (i : Instr) (rest : List Byte), decode (encode i ++ rest) = .ok (i, rest)

/-- For every byte sequence that the decoder accepts, with answer i and left-over bytes rest, the sequence is encode i
++ rest. The opcode bytes are the spec's general knowledge (log 7). -/
def Obligations.EncodeOfDecodeIsTheBytes : Prop :=
  ∀ (bytes : List Byte) (i : Instr) (rest : List Byte),
    decode bytes = .ok (i, rest) → bytes = encode i ++ rest

/-- For every opcode byte, whatever follows it: the decoder answers unknownOpcode of that byte if and only if the byte
is one of the 105 of the list of illegal bytes. The list is the complement of the spec's table, which is general
knowledge (log 7). -/
def Obligations.UnknownOpcodeExactlyOnTheListedBytes : Prop :=
  ∀ (opcode : Byte) (rest : List Byte),
    decode (opcode :: rest) = .error (.unknownOpcode opcode) ↔ opcode ∈ illegalOpcodes

/-- One word of each family, written from the table: BD 34 12 is LDA $1234,X; 96 10 is STX $10,Y; E9 B0 is SBC #$B0;
2C 00 03 is BIT $0300; CE 34 12 is DEC $1234; C1 20 is CMP ($20,X); 6A is ROR A; 28 is PLP; 6C FF 02 is JMP ($02FF);
D0 F9 is BNE -7; F8 is SED. The bytes are the spec's general knowledge (log 7). -/
def Obligations.WordsWrittenFromTheTableDecode : Prop :=
  decode [0xBD, 0x34, 0x12] = .ok (.ldaAbsoluteX 0x1234, []) ∧ decode [0x96, 0x10] = .ok (.stxZeroPageY 0x10, []) ∧
  decode [0xE9, 0xB0] = .ok (.sbcImmediate 0xB0, []) ∧ decode [0x2C, 0x00, 0x03] = .ok (.bitAbsolute 0x0300, []) ∧
  decode [0xCE, 0x34, 0x12] = .ok (.decAbsolute 0x1234, []) ∧ decode [0xC1, 0x20] = .ok (.cmpIndexedIndirect 0x20, []) ∧
  decode [0x6A] = .ok (.rorAccumulator, []) ∧ decode [0x28] = .ok (.plp, []) ∧
  decode [0x6C, 0xFF, 0x02] = .ok (.jmpIndirect 0x02FF, []) ∧ decode [0xD0, 0xF9] = .ok (.bne 0xF9, []) ∧
  decode [0xF8] = .ok (.sed, [])

/-- For every Ready state: if the three bytes from PC (addresses mod 65536) decode to i, whatever is left over, then
step is exec of i at that state; exec itself moves PC. -/
def Obligations.StepRunsTheDecodedInstruction : Prop :=
  ∀ (s : State) (i : Instr) (rest : List Byte),
    s.run = .ready → decode (s.bytesFrom s.pc 3) = .ok (i, rest) → step s = exec i s

/-- For every Ready state whose byte at PC is one of the 105 illegal bytes: step answers the same state with run
Halted and the record of that byte and PC. That the transition is a next state, and the fault follows at the next
step, is the model's choice (log 1). -/
def Obligations.StepAtAnUnknownOpcodeOnlyHalts : Prop :=
  ∀ s : State, s.run = .ready → s.read s.pc ∈ illegalOpcodes →
    step s = .next { s with run := .halted { byte := s.read s.pc, address := s.pc } }

/-- For every Ready state whose byte at PC has no row in the decode table: the host's step() returns UnknownOpcode of
that byte and PC, and leaves the same state but for the run state, which is Halted with that record. -/
def Obligations.UnknownOpcodeIsReportedAndRecorded : Prop :=
  ∀ s : State, s.run = .ready → findRow (s.read s.pc) = none →
    s.stepCall = (.unknownOpcode (s.read s.pc) s.pc,
      { s with run := .halted { byte := s.read s.pc, address := s.pc } })

/-- For every state Halted with a record: step is the fault with the record's byte and address, and the host's step()
returns that error again and leaves the state as it is. -/
def Obligations.HaltedCoreReportsAgainAndStays : Prop :=
  ∀ (s : State) (record : FaultRecord), s.run = .halted record →
    step s = .fault (.unknownOpcode record.byte record.address) ∧
    s.stepCall = (.unknownOpcode record.byte record.address, s)

/-- For every instruction and state, exec answers a next state. For every Ready state, either the byte at PC has no
row and step() reports it with only the run state changed, or there are an instruction i and a state t with exec i s =
next t, and step() returns Ok with t, still Ready. -/
def Obligations.EveryReadyStepCompletesOrReports : Prop :=
  (∀ (i : Instr) (s : State), ∃ t, exec i s = .next t) ∧
  ∀ s : State, s.run = .ready →
    (findRow (s.read s.pc) = none ∧ s.stepCall = (.unknownOpcode (s.read s.pc) s.pc,
      { s with run := .halted { byte := s.read s.pc, address := s.pc } })) ∨
    ∃ (i : Instr) (t : State), exec i s = .next t ∧ t.run = .ready ∧ s.stepCall = (.ok, t)

/-- For every state with U = 1 and memory in the canonical form, if step answers a next state, that state has both:
from every such state, not only from reset. The canonical form (addresses rising, no entry equal to 0x00) is the
model's choice of representation (log 5) and no rule of the spec; that PLP and RTI leave U at 1 is the spec's decision
D10 (log 18). -/
def Obligations.InvariantKeptByEveryStep : Prop :=
  ∀ s t : State, s.Inv → step s = .next t → t.Inv

/-- State.reset meets the invariant of InvariantKeptByEveryStep: U = 1, which the spec gives for reset, and memory in
the canonical form, which is the model's choice of representation (log 5) and no rule of the spec. -/
def Obligations.ResetMeetsTheInvariant : Prop :=
  State.reset.Inv

/-- For every state, if step answers a next state t and t is Halted with a record, the record's address is PC of t,
its byte is the byte there, and that byte has no row in the decode table. -/
def Obligations.HaltedRecordNamesTheByteAtPc : Prop :=
  ∀ s t : State, step s = .next t → t.HaltedInv

/-- For every Ready state and instruction: after its encoding is written at PC (addresses mod 65536), the next step is
exec of that instruction at the state with the bytes written. -/
def Obligations.StoredBytesAreFetchedAndRun : Prop :=
  ∀ (s : State) (i : Instr), s.run = .ready →
    step (s.writeBytes s.pc (encode i)) = exec i (s.writeBytes s.pc (encode i))

/-- For every state that is Ready with PC = 0x0000, the byte 0x00 at 0x0000 and 0x00 in both bytes of the BRK vector,
and every n: n steps answer next states that are all Ready, each of the n steps is exec of BRK, and PC is 0x0000
before each of them and after the last. That the byte 0x00 is BRK is the spec's general knowledge (log 7). -/
def Obligations.ClearedVectorAndBrkLoopForever : Prop :=
  ∀ (n : Nat) (s : State), s.run = .ready → s.pc = 0x0000 → s.read 0x0000 = 0x00 →
    s.read 0xFFFE = 0x00 → s.read 0xFFFF = 0x00 → s.SafeRun n ∧ BrkAtZero s n

/-- For every state and byte: after a push, the byte is at 0x0100 plus the old SP, every other byte is as before, SP
is the old SP minus 1 mod 256, and nothing else changes. -/
def Obligations.PushWritesThenDecrements : Prop :=
  ∀ (s : State) (v : Byte),
    OneByteWritten s (s.push v) (BitVec.ofNat 16 (0x0100 + s.sp.toNat)) v ∧
    (s.push v).sp.toNat = (s.sp.toNat + 255) % 256 ∧
    s.push v = { s with sp := (s.push v).sp, mem := (s.push v).mem }

/-- For every state: the byte pulled is the one at 0x0100 plus (SP + 1) mod 256; after the pull SP is (SP + 1) mod 256
and nothing else changes, memory included. -/
def Obligations.PullIncrementsThenReads : Prop :=
  ∀ s : State,
    s.pull.sp.toNat = (s.sp.toNat + 1) % 256 ∧
    s.pulled = s.read (BitVec.ofNat 16 (0x0100 + (s.sp.toNat + 1) % 256)) ∧
    s.pull = { s with sp := s.pull.sp }

/-- For every state: a pull after a push returns the byte pushed and restores SP; a 16-bit push writes the high byte
at 0x0100 + SP and the low byte at 0x0100 + (SP - 1) mod 256 and changes no other byte; a 16-bit pull after it returns
the word and restores SP. The wrap inside a 16-bit push is the spec's derivation. -/
def Obligations.PushedValuesArePulledBack : Prop :=
  ∀ (s : State) (v : Byte) (w : Word),
    (s.push v).pulled = v ∧ (s.push v).pull.sp = s.sp ∧
    (s.push16 w).read (BitVec.ofNat 16 (0x0100 + s.sp.toNat)) = highByte w ∧
    (s.push16 w).read (BitVec.ofNat 16 (0x0100 + (s.sp.toNat + 255) % 256)) = lowByte w ∧
    (∀ addr, addr ≠ stackAddr s.sp → addr ≠ stackAddr (s.sp - 1) → (s.push16 w).read addr = s.read addr) ∧
    (s.push16 w).pulled16 = w ∧ (s.push16 w).pull16.sp = s.sp

/-- For every state and zero-page address zp: MemRead16ZP(zp) is 256 times the byte at (zp + 1) mod 256 plus the byte
at zp. -/
def Obligations.ZeroPagePointerWrapsInThePage : Prop :=
  ∀ (s : State) (zp : Byte),
    (s.read16zp zp).toNat =
      (s.read (BitVec.ofNat 16 ((zp.toNat + 1) % 256))).toNat * 256 + (s.read (BitVec.ofNat 16 zp.toNat)).toNat

/-- For every state and address: MemRead16(addr) is 256 times the byte at (addr + 1) mod 65536 plus the byte at addr.
-/
def Obligations.WordReadIsLittleEndianAndWraps : Prop :=
  ∀ (s : State) (addr : Word),
    (s.read16 addr).toNat =
      (s.read (BitVec.ofNat 16 ((addr.toNat + 1) % 65536))).toNat * 256 + (s.read addr).toNat

/-- For all flags and bytes v: after SetZN(v), Z is (v = 0), N is bit 7 of v, the other six flags are as before, and Z
and N are not both 1. -/
def Obligations.SetZNIsZeroAndBitSeven : Prop :=
  ∀ (p : Flags) (v : Byte),
    p.setZN v = { p with z := decide (v = 0), n := decide (128 ≤ v.toNat) } ∧
    ((p.setZN v).z && (p.setZN v).n) = false

/-- For all bytes a, m and carry in: the result is (a + m + c) mod 256; carry out if and only if a + m + c > 255;
overflow if and only if the sum of a and m read as -128..127, plus c, lies outside -128..127; and overflow is ((~(a ^
m)) & (a ^ r) & 0x80) != 0. -/
def Obligations.AddCoreIsTheExactSumNarrowed : Prop :=
  ∀ (a m : Byte) (c : Bool),
    (addCore a m c).r.toNat = (a.toNat + m.toNat + c.toNat) % 256 ∧
    ((addCore a m c).cOut = true ↔ 255 < a.toNat + m.toNat + c.toNat) ∧
    ((addCore a m c).vOut = true ↔ a.toInt + m.toInt + c.toNat < -128 ∨ 127 < a.toInt + m.toInt + c.toNat) ∧
    (addCore a m c).vOut = ((~~~(a ^^^ m) &&& (a ^^^ (addCore a m c).r) &&& 0x80) != 0)

/-- For all bytes a, m and carry in: SubCore is AddCore with m ^ 0xFF; the result is (a - m - (1 - c)) mod 256; carry
out if and only if a >= m + (1 - c) unsigned; overflow if and only if the signed difference lies outside -128..127. -/
def Obligations.SubCoreIsTheExactDifferenceNarrowed : Prop :=
  ∀ (a m : Byte) (c : Bool),
    subCore a m c = addCore a (m ^^^ 0xFF) c ∧
    ((subCore a m c).r.toNat : Int) = ((a.toNat : Int) - m.toNat - (1 - c.toNat)) % 256 ∧
    ((subCore a m c).cOut = true ↔ m.toNat + (1 - c.toNat) ≤ a.toNat) ∧
    ((subCore a m c).vOut = true ↔
      a.toInt - m.toInt - (1 - c.toNat) < -128 ∨ 127 < a.toInt - m.toInt - (1 - c.toNat))

/-- For all bytes reg and m: c is (reg >= m) unsigned, z is (reg = m), n is bit 7 of (reg - m) mod 256; c and n are
the carry out and bit 7 of the result of SubCore(reg, m, 1), the spec's derivation. -/
def Obligations.CompareCoreIsSubtractionWithCarry : Prop :=
  ∀ reg m : Byte,
    ((compareCore reg m).c = true ↔ m.toNat ≤ reg.toNat) ∧
    ((compareCore reg m).z = true ↔ reg = m) ∧
    ((compareCore reg m).n = true ↔ 128 ≤ (reg.toNat + 256 - m.toNat) % 256) ∧
    (compareCore reg m).c = (subCore reg m true).cOut ∧
    (compareCore reg m).n = decide (128 ≤ (subCore reg m true).r.toNat)

/-- For every byte v and carry c: ASL gives 2v mod 256, LSR v / 2, ROL 2v mod 256 + c, ROR v / 2 + 128c; the carry out
is bit 7 of v for ASL and ROL and bit 0 for LSR and ROR. -/
def Obligations.ShiftCoresMoveOneBit : Prop :=
  ∀ (v : Byte) (c : Bool),
    (aslCore v).r.toNat = (2 * v.toNat) % 256 ∧ (aslCore v).cOut = decide (128 ≤ v.toNat) ∧
    (lsrCore v).r.toNat = v.toNat / 2 ∧ (lsrCore v).cOut = decide (v.toNat % 2 = 1) ∧
    (rolCore v c).r.toNat = (2 * v.toNat) % 256 + c.toNat ∧ (rolCore v c).cOut = decide (128 ≤ v.toNat) ∧
    (rorCore v c).r.toNat = v.toNat / 2 + 128 * c.toNat ∧ (rorCore v c).cOut = decide (v.toNat % 2 = 1)

/-- For every byte v and carry c: rotating left and then right through the carry gives v and c back, and so does
rotating right and then left; nine left rotations in a row give v and c back. -/
def Obligations.RotatesAreNineBitRotations : Prop :=
  ∀ (v : Byte) (c : Bool),
    rorCore (rolCore v c).r (rolCore v c).cOut = { r := v, cOut := c } ∧
    rolCore (rorCore v c).r (rorCore v c).cOut = { r := v, cOut := c } ∧
    (fun o : ShiftResult => rolCore o.r o.cOut)^[9] { r := v, cOut := c } = { r := v, cOut := c }

/-- For all flags p and bytes v: bits 0 to 7 of pack p are C, Z, I, D, B, U, V, N; unpack (pack p) is p with U = 1;
pack (unpack v) is v with bit 5 set; the byte PHP and BRK push is pack p with bits 4 and 5 set. The bit order is the
spec's derivation, U staying 1 its decision D10, the forced bits its general knowledge (logs 10, 14, 18). -/
def Obligations.StatusByteHoldsTheFlags : Prop :=
  ∀ (p : Flags) (v : Byte),
    (p.pack[0] = p.c ∧ p.pack[1] = p.z ∧ p.pack[2] = p.i ∧ p.pack[3] = p.d ∧
      p.pack[4] = p.b ∧ p.pack[5] = p.u ∧ p.pack[6] = p.v ∧ p.pack[7] = p.n) ∧
    Flags.unpack p.pack = { p with u := true } ∧
    (Flags.unpack v).pack = v ||| 0x20 ∧
    p.pushed = { p with b := true, u := true }.pack

/-- For every state and byte addr: the effective address of zero page,X is (addr + X) mod 256, and that of zero page,Y
is (addr + Y) mod 256; the modes have length 2. -/
def Obligations.ZeroPageIndexStaysInThePage : Prop :=
  ∀ (s : State) (addr : Byte),
    (s.ea (.zeroPageX addr)).toNat = (addr.toNat + s.x.toNat) % 256 ∧
    (s.ea (.zeroPageY addr)).toNat = (addr.toNat + s.y.toNat) % 256 ∧
    (AddrMode.zeroPageX addr).mode.length = 2 ∧ (AddrMode.zeroPageY addr).mode.length = 2

/-- For every state and word addr: the effective address of absolute,X is (addr + X) mod 65536 and that of absolute,Y
(addr + Y) mod 65536, with the index unsigned; the modes have length 3. -/
def Obligations.AbsoluteIndexCarriesAndWraps : Prop :=
  ∀ (s : State) (addr : Word),
    (s.ea (.absoluteX addr)).toNat = (addr.toNat + s.x.toNat) % 65536 ∧
    (s.ea (.absoluteY addr)).toNat = (addr.toNat + s.y.toNat) % 65536 ∧
    (AddrMode.absoluteX addr).mode.length = 3 ∧ (AddrMode.absoluteY addr).mode.length = 3

/-- For every state and byte ptr: the effective address of (zero page,X) is 256 times the byte at (ptr + X + 1) mod
256 plus the byte at (ptr + X) mod 256; that of (zero page),Y is that word for ptr itself, plus Y, mod 65536. -/
def Obligations.IndirectModesDereferenceThePointer : Prop :=
  ∀ (s : State) (ptr : Byte),
    (s.ea (.indexedIndirect ptr)).toNat =
      (s.read (BitVec.ofNat 16 ((ptr.toNat + s.x.toNat + 1) % 256))).toNat * 256 +
        (s.read (BitVec.ofNat 16 ((ptr.toNat + s.x.toNat) % 256))).toNat ∧
    (s.ea (.indirectIndexed ptr)).toNat =
      ((s.read (BitVec.ofNat 16 ((ptr.toNat + 1) % 256))).toNat * 256 +
        (s.read (BitVec.ofNat 16 ptr.toNat)).toNat + s.y.toNat) % 65536

/-- For every pc0 and displacement: the target is (pc0 + 2 + d) mod 65536 with d read as -128..127. An instruction is
in relative mode if and only if it is one of the eight branches. Relative mode has length 2. -/
def Obligations.BranchTargetCountsFromTheEnd : Prop :=
  (∀ (pc0 : Word) (disp : Byte),
    ((branchTarget pc0 disp).toNat : Int) = ((pc0.toNat : Int) + 2 + disp.toInt) % 65536) ∧
  (∀ i : Instr, i.operand.mode = .relative ↔ i.mnemonic ∈ branches) ∧
  Mode.relative.length = 2

/-- For every state and pointer: the target is 256 times the high byte plus the byte at ptr, the high byte being read
with the bug on from the same page at (low + 1) mod 256, with the bug off from (ptr + 1) mod 65536. -/
def Obligations.IndirectJumpReadsItsPointer : Prop :=
  ∀ (s : State) (ptr : Word),
    (s.indirectTarget ptr).toNat =
      (s.read (BitVec.ofNat 16
        (if s.config.jmpIndirectPageWrapBug then ptr.toNat / 256 * 256 + (ptr.toNat % 256 + 1) % 256
         else (ptr.toNat + 1) % 65536))).toNat * 256 + (s.read ptr).toNat

/-- For every form of LDA (8), LDX (5) and LDY (5) and every state: the operand has a value M, and exec answers the
state with the register set to M, Z and N from M, PC at pc_next, and all else (other registers, flags C I D B U V,
memory) as before. -/
def Obligations.LoadsCopyTheOperand : Prop :=
  ∀ (i : Instr) (s : State),
    (i.mnemonic = .lda → ∃ m, operandValue s i.operand = some m ∧
      exec i s = .next { s with a := m, p := withZN s.p m, pc := pcNext i s }) ∧
    (i.mnemonic = .ldx → ∃ m, operandValue s i.operand = some m ∧
      exec i s = .next { s with x := m, p := withZN s.p m, pc := pcNext i s }) ∧
    (i.mnemonic = .ldy → ∃ m, operandValue s i.operand = some m ∧
      exec i s = .next { s with y := m, p := withZN s.p m, pc := pcNext i s })

/-- For every form of STA (7), STX (3) and STY (3) and every state: the operand is an address, and exec answers a
state that differs in memory and PC only: the byte at ea is the register, every other byte is as before, PC is
pc_next. -/
def Obligations.StoresWriteOneByte : Prop :=
  ∀ (i : Instr) (s : State) (v : Byte),
    (i.mnemonic = .sta ∧ v = s.a ∨ i.mnemonic = .stx ∧ v = s.x ∨ i.mnemonic = .sty ∧ v = s.y) →
    ∃ mode t, i.operand = .addressed mode ∧ exec i s = .next t ∧ OneByteWritten s t (s.ea mode) v ∧
      t = { s with mem := t.mem, pc := pcNext i s }

/-- For every state: each of the six transfers answers the state with the destination register set to the source, PC
at pc0 + 1, and Z and N from the new value, except TXS, which changes no flag; all else is as before. -/
def Obligations.TransfersCopyARegister : Prop :=
  ∀ s : State,
    exec .tax s = .next { s with x := s.a, p := withZN s.p s.a, pc := s.pc + 1 } ∧
    exec .tay s = .next { s with y := s.a, p := withZN s.p s.a, pc := s.pc + 1 } ∧
    exec .txa s = .next { s with a := s.x, p := withZN s.p s.x, pc := s.pc + 1 } ∧
    exec .tya s = .next { s with a := s.y, p := withZN s.p s.y, pc := s.pc + 1 } ∧
    exec .tsx s = .next { s with x := s.sp, p := withZN s.p s.sp, pc := s.pc + 1 } ∧
    exec .txs s = .next { s with sp := s.x, pc := s.pc + 1 }

/-- For every form of ADC (8) and SBC (8) and every state, whatever D is: the operand has a value M, and exec answers
the state with A the result of AddCore (SubCore for SBC) of A, M and C, C and V its carry and overflow, Z and N from
the result, PC at pc_next, and all else as before. -/
def Obligations.AdcAndSbcAreBinary : Prop :=
  ∀ (i : Instr) (s : State),
    (i.mnemonic = .adc → ∃ m o, operandValue s i.operand = some m ∧ o = addCore s.a m s.p.c ∧
      exec i s = .next { s with a := o.r, p := withZN { s.p with c := o.cOut, v := o.vOut } o.r, pc := pcNext i s }) ∧
    (i.mnemonic = .sbc → ∃ m o, operandValue s i.operand = some m ∧ o = subCore s.a m s.p.c ∧
      exec i s = .next { s with a := o.r, p := withZN { s.p with c := o.cOut, v := o.vOut } o.r, pc := pcNext i s })

/-- For every form of AND (8), ORA (8) and EOR (8) and every state: the operand has a value M, and exec answers the
state with A the bitwise and, or, exclusive or of A and M, Z and N from it, PC at pc_next, and all else as before. -/
def Obligations.LogicCombinesBitwise : Prop :=
  ∀ (i : Instr) (s : State) (op : Byte → Byte → Byte),
    (i.mnemonic = .and ∧ op = (· &&& ·) ∨ i.mnemonic = .ora ∧ op = (· ||| ·) ∨ i.mnemonic = .eor ∧ op = (· ^^^ ·)) →
    ∃ m, operandValue s i.operand = some m ∧
      exec i s = .next { s with a := op s.a m, p := withZN s.p (op s.a m), pc := pcNext i s }

/-- For both forms of BIT and every state: the operand has a value M, and exec answers the state with Z set to (A & M
= 0), N to bit 7 of M, V to bit 6 of M, PC at pc_next, and all else as before, A among it. -/
def Obligations.BitTestsTheOperand : Prop :=
  ∀ (i : Instr) (s : State), i.mnemonic = .bit → ∃ m, operandValue s i.operand = some m ∧
    exec i s = .next { s with p := { s.p with z := decide (s.a &&& m = 0), n := m[7], v := m[6] }, pc := pcNext i s }

/-- For every form of INC (4) and DEC (4) and every state: the operand is an address; with r the byte there plus 1
(minus 1 for DEC) mod 256, exec answers a state with r at ea, every other byte as before, Z and N from r, PC at
pc_next, and all else as before. -/
def Obligations.IncAndDecUpdateOneByte : Prop :=
  ∀ (i : Instr) (s : State) (delta : Byte),
    (i.mnemonic = .inc ∧ delta = 1 ∨ i.mnemonic = .dec ∧ delta = 255) →
    ∃ mode r t, i.operand = .addressed mode ∧ r.toNat = ((s.read (s.ea mode)).toNat + delta.toNat) % 256 ∧
      exec i s = .next t ∧ OneByteWritten s t (s.ea mode) (r : Byte) ∧
      t = { s with mem := t.mem, p := withZN s.p r, pc := pcNext i s }

/-- For every state: each of the four answers the state with the register plus 1 or minus 1 mod 256, Z and N from it,
PC at pc0 + 1, and all else as before. -/
def Obligations.IndexStepsWrap : Prop :=
  ∀ s : State,
    exec .inx s = .next { s with x := s.x + 1, p := withZN s.p (s.x + 1), pc := s.pc + 1 } ∧
    exec .dex s = .next { s with x := s.x - 1, p := withZN s.p (s.x - 1), pc := s.pc + 1 } ∧
    exec .iny s = .next { s with y := s.y + 1, p := withZN s.p (s.y + 1), pc := s.pc + 1 } ∧
    exec .dey s = .next { s with y := s.y - 1, p := withZN s.p (s.y - 1), pc := s.pc + 1 }

/-- For every form of CMP (8), CPX (3) and CPY (3) and every state: the operand has a value M, and exec answers the
state with C, Z, N those of CompareCore of the register and M, PC at pc_next, and all else as before, V and the
register among it. -/
def Obligations.ComparesSetCZNOnly : Prop :=
  ∀ (i : Instr) (s : State) (reg : Byte),
    (i.mnemonic = .cmp ∧ reg = s.a ∨ i.mnemonic = .cpx ∧ reg = s.x ∨ i.mnemonic = .cpy ∧ reg = s.y) →
    ∃ m, operandValue s i.operand = some m ∧
      exec i s = .next { s with
        p := { s.p with c := (compareCore reg m).c, z := (compareCore reg m).z, n := (compareCore reg m).n }
        pc := pcNext i s }

/-- For every form of ASL, LSR, ROL and ROR (5 each) and every state: with M the operand value and o the shift
function of M and the old carry, exec answers a state with C the carry of o, Z and N from its result r and PC at
pc_next; in accumulator mode A is r and no byte of memory changes; in a memory mode the byte at ea is r, every other
byte and A are as before; all else is as before. -/
def Obligations.ShiftsReplaceTheirOperand : Prop :=
  ∀ (i : Instr) (s : State) (core : Byte → ShiftResult),
    (i.mnemonic = .asl ∧ core = aslCore ∨ i.mnemonic = .lsr ∧ core = lsrCore ∨
      i.mnemonic = .rol ∧ core = (rolCore · s.p.c) ∨ i.mnemonic = .ror ∧ core = (rorCore · s.p.c)) →
    ∃ m o t, operandValue s i.operand = some m ∧ o = core m ∧ exec i s = .next t ∧
      ((i.operand = .accumulator ∧
          t = { s with a := o.r, p := withZN { s.p with c := o.cOut } o.r, pc := pcNext i s }) ∨
        ∃ mode, i.operand = .addressed mode ∧ OneByteWritten s t (s.ea mode) o.r ∧
          t = { s with mem := t.mem, p := withZN { s.p with c := o.cOut } o.r, pc := pcNext i s })

/-- For every state: PHA (PHP) answers a state with A (P | 0x30) at 0x0100 + SP, every other byte as before, SP one
less mod 256, PC at pc0 + 1, and all else as before, every flag among it. -/
def Obligations.PhaAndPhpPushOneByte : Prop :=
  ∀ s : State,
    (∃ t, exec .pha s = .next t ∧ OneByteWritten s t (stackAddr s.sp) s.a ∧
      t = { s with mem := t.mem, sp := s.sp - 1, pc := s.pc + 1 }) ∧
    (∃ t, exec .php s = .next t ∧ OneByteWritten s t (stackAddr s.sp) (s.p.pack ||| 0x30) ∧
      t = { s with mem := t.mem, sp := s.sp - 1, pc := s.pc + 1 })

/-- For every state: PLA answers the state with A the byte at 0x0100 + (SP + 1) mod 256 and Z and N from it; PLP with
C, Z, I, D, B, V, N from bits 0, 1, 2, 3, 4, 6, 7 of that byte and U = 1; in both SP is one more mod 256, PC is pc0 +
1, and all else, memory among it, is as before. -/
def Obligations.PlaAndPlpPullOneByte : Prop :=
  ∀ (s : State) (v : Byte), v = s.read (stackAddr (s.sp + 1)) →
    exec .pla s = .next { s with a := v, p := withZN s.p v, sp := s.sp + 1, pc := s.pc + 1 } ∧
    exec .plp s = .next { s with
      p := { c := v[0], z := v[1], i := v[2], d := v[3], b := v[4], u := true, v := v[6], n := v[7] }
      sp := s.sp + 1, pc := s.pc + 1 }

/-- For every state and operand: JMP absolute answers the state with PC the operand, JMP indirect the state with PC
the target read through the pointer (IndirectJumpReadsItsPointer), and nothing else changed. -/
def Obligations.JmpOnlyReplacesPc : Prop :=
  ∀ (s : State) (w : Word),
    exec (.jmpAbsolute w) s = .next { s with pc := w } ∧
    exec (.jmpIndirect w) s = .next { s with pc := s.indirectTarget w }

/-- For every state and target: JSR answers a state with the high byte of pc0 + 2 at 0x0100 + SP and the low byte at
0x0100 + (SP - 1) mod 256, every other byte as before, SP two less mod 256, PC the target, and all else as before. -/
def Obligations.JsrPushesTheAddressOfItsLastByte : Prop :=
  ∀ (s : State) (target : Word), ∃ t, exec (.jsr target) s = .next t ∧
    t.read (stackAddr s.sp) = highByte (s.pc + 2) ∧ t.read (stackAddr (s.sp - 1)) = lowByte (s.pc + 2) ∧
    (∀ addr, addr ≠ stackAddr s.sp → addr ≠ stackAddr (s.sp - 1) → t.read addr = s.read addr) ∧
    t = { s with mem := t.mem, sp := s.sp - 2, pc := target }

/-- For every state: RTS answers the state with PC = (256 * byte at 0x0100 + (SP + 2) mod 256 + byte at 0x0100 + (SP +
1) mod 256 + 1) mod 65536, SP two more mod 256, and all else, memory and flags among it, as before. -/
def Obligations.RtsReturnsPastThePulledAddress : Prop :=
  ∀ s : State,
    exec .rts s = .next { s with
      sp := s.sp + 2
      pc := wordOfBytes (s.read (stackAddr (s.sp + 1))) (s.read (stackAddr (s.sp + 2))) + 1 }

/-- For every instruction with a branch condition (BCC, BCS, BEQ, BNE, BPL, BMI, BVC, BVS) and every state: the
operand is a displacement d, and exec answers the state with PC = branchTarget pc0 d when the condition holds and pc0
+ 2 when it does not, and nothing else changed. -/
def Obligations.BranchesTestOneFlag : Prop :=
  ∀ (i : Instr) (s : State) (taken : Bool), branchTaken s.p i.mnemonic = some taken →
    ∃ disp, i.operand = .relative disp ∧
      exec i s = .next { s with pc := if taken then branchTarget s.pc disp else s.pc + 2 }

/-- For every state: BRK answers a state with the high and low bytes of pc0 + 2 at 0x0100 + SP and 0x0100 + SP - 1 and
P | 0x30, with I as before, at 0x0100 + SP - 2 (SP mod 256), every other byte as before, SP three less, I set and
every other flag as before, PC the word at 0xFFFE, A, X, Y as before. -/
def Obligations.BrkTakesTheTrap : Prop :=
  ∀ s : State, ∃ t, exec .brk s = .next t ∧
    t.read (stackAddr s.sp) = highByte (s.pc + 2) ∧ t.read (stackAddr (s.sp - 1)) = lowByte (s.pc + 2) ∧
    t.read (stackAddr (s.sp - 2)) = s.p.pack ||| 0x30 ∧
    (∀ addr, addr ≠ stackAddr s.sp → addr ≠ stackAddr (s.sp - 1) → addr ≠ stackAddr (s.sp - 2) →
      t.read addr = s.read addr) ∧
    t = { s with mem := t.mem, sp := s.sp - 3, p := { s.p with i := true },
                 pc := wordOfBytes (s.read 0xFFFE) (s.read 0xFFFF) }

/-- For every state: RTI answers the state with C, Z, I, D, B, V, N from the byte at 0x0100 + SP + 1, U = 1, PC from
the next two bytes, low then high, SP three more (all mod 256), and all else, memory among it, as before. -/
def Obligations.RtiRestoresFlagsAndPc : Prop :=
  ∀ (s : State) (v : Byte), v = s.read (stackAddr (s.sp + 1)) →
    exec .rti s = .next { s with
      p := { c := v[0], z := v[1], i := v[2], d := v[3], b := v[4], u := true, v := v[6], n := v[7] }
      sp := s.sp + 3
      pc := wordOfBytes (s.read (stackAddr (s.sp + 2))) (s.read (stackAddr (s.sp + 3))) }

/-- For every state: each of the seven answers the state with its one flag cleared or set and PC at pc0 + 1, NOP with
PC at pc0 + 1 alone, and all else as before. -/
def Obligations.FlagInstructionsWriteOneFlag : Prop :=
  ∀ s : State,
    exec .clc s = .next { s with p := { s.p with c := false }, pc := s.pc + 1 } ∧
    exec .sec s = .next { s with p := { s.p with c := true }, pc := s.pc + 1 } ∧
    exec .cli s = .next { s with p := { s.p with i := false }, pc := s.pc + 1 } ∧
    exec .sei s = .next { s with p := { s.p with i := true }, pc := s.pc + 1 } ∧
    exec .cld s = .next { s with p := { s.p with d := false }, pc := s.pc + 1 } ∧
    exec .sed s = .next { s with p := { s.p with d := true }, pc := s.pc + 1 } ∧
    exec .clv s = .next { s with p := { s.p with v := false }, pc := s.pc + 1 } ∧
    exec .nop s = .next { s with pc := s.pc + 1 }

/-- For every instruction, from every state, when exec answers a next state: each of the seven flags, A, X, Y and SP
changes only under the mnemonics whose rules write it (A under a shift only in accumulator mode); U, being 1, stays 1;
every byte of memory outside the addresses the instruction stores to, computed as its rule computes them, reads as
before, for all of memory when it stores nothing; the run state and the parameters never change. It rests on choices
and presumptions beside the frame rule of 40_step_and_flag_primitives.md: PHP and BRK keep the stored B, PLP and RTI
keep U at 1 (log 18, D11 and D10); what the twelve mnemonics write that the source does not name (log 8); PLA writes Z
and N (log 9); the parameters are a field of the model's own (log 3). -/
def Obligations.WhatNoRuleNamesKeepsItsValue : Prop :=
  ∀ (i : Instr) (s t : State), exec i s = .next t →
    (i.mnemonic ∉ [.adc, .sbc, .cmp, .cpx, .cpy, .asl, .lsr, .rol, .ror, .clc, .sec, .plp, .rti] → t.p.c = s.p.c) ∧
    (i.mnemonic ∉ [.lda, .ldx, .ldy, .tax, .tay, .txa, .tya, .tsx, .pla, .adc, .sbc, .and, .ora, .eor, .inc, .dec, .inx,
      .dex, .iny, .dey, .asl, .lsr, .rol, .ror, .cmp, .cpx, .cpy, .bit, .plp, .rti] →
        t.p.z = s.p.z ∧ t.p.n = s.p.n) ∧
    (i.mnemonic ∉ [.brk, .sei, .cli, .plp, .rti] → t.p.i = s.p.i) ∧
    (i.mnemonic ∉ [.sed, .cld, .plp, .rti] → t.p.d = s.p.d) ∧
    (i.mnemonic ∉ [.plp, .rti] → t.p.b = s.p.b) ∧
    (i.mnemonic ∉ [.adc, .sbc, .bit, .clv, .plp, .rti] → t.p.v = s.p.v) ∧
    (i.mnemonic ∉ [.plp, .rti] → t.p.u = s.p.u) ∧ (s.p.u = true → t.p.u = true) ∧
    (i.mnemonic ∉ [.lda, .pla, .txa, .tya, .adc, .sbc, .and, .ora, .eor] →
      ¬(i.mnemonic ∈ shifts ∧ i.operand = .accumulator) → t.a = s.a) ∧
    (i.mnemonic ∉ [.ldx, .tax, .tsx, .inx, .dex] → t.x = s.x) ∧
    (i.mnemonic ∉ [.ldy, .tay, .iny, .dey] → t.y = s.y) ∧
    (i.mnemonic ∉ [.txs, .pha, .php, .pla, .plp, .jsr, .rts, .brk, .rti] → t.sp = s.sp) ∧
    (∀ addr, addr ∉ storedAddresses i s → t.read addr = s.read addr) ∧
    t.run = s.run ∧ t.config = s.config

/-- For every instruction, from every state, when exec answers a next state: if the mnemonic is none of JMP, JSR, RTS,
RTI, BRK and the eight branches, PC is (pc0 + length) mod 65536; a branch whose condition does not hold leaves PC at
pc0 + 2. Which flag a branch tests, and its polarity, is the spec's general knowledge (log 11, D22), and so are the
lengths, which follow from the decode table (log 7, D1). -/
def Obligations.PcAdvancesByTheLengthUnlessTransferred : Prop :=
  ∀ (i : Instr) (s t : State), exec i s = .next t →
    (i.mnemonic ∉ [.jmp, .jsr, .rts, .rti, .brk] ++ branches → t.pc.toNat = (s.pc.toNat + i.length) % 65536) ∧
    (branchTaken s.p i.mnemonic = some false → t.pc = s.pc + 2)

/-- For every state s and value b: if step of s answers a next state t, then step of s with its stored B set to b
answers t with some value of the stored B and every other flag, register, byte of memory and the run state the same. A
program therefore cannot observe the stored B (the spec's derivation). -/
def Obligations.StoredBreakFlagIsUnobservable : Prop :=
  ∀ (s t : State) (b : Bool), step s = .next t →
    ∃ b', step { s with p := { s.p with b := b } } = .next { t with p := { t.p with b := b' } }

/-- For every instruction but PHP and BRK, every state s and all values x, d: if exec of s answers t, exec of s with I
= x and D = d answers t with some values of I and D and all else the same. -/
def Obligations.InterruptAndDecimalFlagsInfluenceNothing : Prop :=
  ∀ (i : Instr) (s t : State) (x d : Bool), i.mnemonic ∉ [.php, .brk] → exec i s = .next t →
    ∃ x' d', exec i { s with p := { s.p with i := x, d := d } } = .next { t with p := { t.p with i := x', d := d' } }

/-- For every state and target: JSR answers some t, and RTS at t answers the state before JSR with memory that of t
and PC = pc0 + 3. -/
def Obligations.SubroutineReturnRestoresPcAndSp : Prop :=
  ∀ (s : State) (target : Word), ∃ t, exec (.jsr target) s = .next t ∧
    exec .rts t = .next { s with mem := t.mem, pc := s.pc + 3 }

/-- For every state with U = 1: BRK answers some t, and RTI at t answers the state before BRK with memory that of t,
PC = pc0 + 2 and the stored B set to 1; I is back at its value before the BRK. -/
def Obligations.TrapReturnRestoresTheFlags : Prop :=
  ∀ s : State, s.p.u = true → ∃ t, exec .brk s = .next t ∧
    exec .rti t = .next { s with mem := t.mem, pc := s.pc + 2, p := { s.p with b := true } }

/-- For every state with U = 1: PHP answers some t and PLP at t answers the state before with memory that of t, PC =
pc0 + 2 and the stored B set to 1; PHA answers some t and PLA at t answers the state before with memory that of t, PC
= pc0 + 2 and Z and N from A. Z and N after PLA (log 9, D21) and bit 4 of the byte PHP pushes (log 10, D23) are the
spec's general knowledge; that PLP loads the stored B from bit 4 and leaves U at 1, and that PHP leaves the stored B,
are its decisions D10 and D11 (log 18). -/
def Obligations.PhpPlpAndPhaPlaRoundTrip : Prop :=
  ∀ s : State, s.p.u = true →
    (∃ t, exec .php s = .next t ∧
      exec .plp t = .next { s with mem := t.mem, pc := s.pc + 2, p := { s.p with b := true } }) ∧
    (∃ t, exec .pha s = .next t ∧
      exec .pla t = .next { s with mem := t.mem, pc := s.pc + 2, p := withZN s.p s.a })

/-- For every state, Ready or Halted: after the core reset A = X = Y = 0x00, SP = 0xFF, U = 1, the other seven flags
are RESET_FLAGS, the run state is Ready with no record, PC is 256 times the byte at 0xFFFD plus the byte at 0xFFFC,
and memory and the parameters are as before; reset is the only way out of Halted: a step() of a Halted core leaves it
as it is. -/
def Obligations.CoreResetGivesTheResetValues : Prop :=
  ∀ s : State,
    s.coreReset.a = 0x00 ∧ s.coreReset.x = 0x00 ∧ s.coreReset.y = 0x00 ∧ s.coreReset.sp = 0xFF ∧
    s.coreReset.p = { c := s.config.resetFlags.c, z := s.config.resetFlags.z, i := s.config.resetFlags.i,
                      d := s.config.resetFlags.d, b := s.config.resetFlags.b, u := true,
                      v := s.config.resetFlags.v, n := s.config.resetFlags.n } ∧
    s.coreReset.run = .ready ∧
    s.coreReset.pc.toNat = (s.read 0xFFFD).toNat * 256 + (s.read 0xFFFC).toNat ∧
    s.coreReset.mem = s.mem ∧ s.coreReset.config = s.config ∧
    (s.run ≠ .ready → s.stepCall.2 = s)

/-- For every state: after reset() every byte reads 0x00, A = X = Y = 0, SP = 0xFF, U = 1, PC = 0x0000 and the core is
Ready; with the default parameters, whose RESET_FLAGS are the model's choice (log 2), it is State.reset. -/
def Obligations.LiteralResetClearsMemory : Prop :=
  ∀ s : State,
    (∀ addr, s.hostReset.read addr = 0x00) ∧
    (s.hostReset.a = 0x00 ∧ s.hostReset.x = 0x00 ∧ s.hostReset.y = 0x00 ∧ s.hostReset.sp = 0xFF) ∧
    s.hostReset.p.u = true ∧ s.hostReset.pc = 0x0000 ∧ s.hostReset.run = .ready ∧
    (s.config = Config.default → s.hostReset = State.reset)

/-- For every state, address and byte sequence: if address + length is at most 65536, load answers a state that
differs in memory only, with byte k of the sequence at address + k for every k and every byte outside those as before;
otherwise load is refused. -/
def Obligations.LoadWritesItsBytesOrRefuses : Prop :=
  ∀ (s : State) (addr : Word) (bytes : List Byte),
    (addr.toNat + bytes.length ≤ 65536 →
      ∃ t, s.load addr bytes = .next t ∧ t = { s with mem := t.mem } ∧
        (∀ (k : Nat) (h : k < bytes.length), t.read (addr + BitVec.ofNat 16 k) = bytes[k]) ∧
        ∀ other, (∀ k, k < bytes.length → other ≠ addr + BitVec.ofNat 16 k) → t.read other = s.read other) ∧
    (65536 < addr.toNat + bytes.length → s.load addr bytes = .refused .loadPastEnd)
end

