-- ==== Sys2Proof/Laws/State.lean ====
section
/-! SUPPORT. One lemma per field per update, so that no proof unfolds a record update; and the accesses of memory that an
update leaves alone. -/

namespace Sys2Proof.Machine

/-! ### write -/

@[simp] theorem State.write_a (s : State) (addr : Word) (v : Byte) : (s.write addr v).a = s.a := rfl
@[simp] theorem State.write_x (s : State) (addr : Word) (v : Byte) : (s.write addr v).x = s.x := rfl
@[simp] theorem State.write_y (s : State) (addr : Word) (v : Byte) : (s.write addr v).y = s.y := rfl
@[simp] theorem State.write_sp (s : State) (addr : Word) (v : Byte) : (s.write addr v).sp = s.sp := rfl
@[simp] theorem State.write_pc (s : State) (addr : Word) (v : Byte) : (s.write addr v).pc = s.pc := rfl
@[simp] theorem State.write_p (s : State) (addr : Word) (v : Byte) : (s.write addr v).p = s.p := rfl
@[simp] theorem State.write_run (s : State) (addr : Word) (v : Byte) : (s.write addr v).run = s.run := rfl
@[simp] theorem State.write_mem (s : State) (addr : Word) (v : Byte) :
    (s.write addr v).mem = s.mem.write addr.toNat v := rfl
@[simp] theorem State.write_config (s : State) (addr : Word) (v : Byte) : (s.write addr v).config = s.config := rfl

/-! ### push -/

@[simp] theorem State.push_a (s : State) (v : Byte) : (s.push v).a = s.a := rfl
@[simp] theorem State.push_x (s : State) (v : Byte) : (s.push v).x = s.x := rfl
@[simp] theorem State.push_y (s : State) (v : Byte) : (s.push v).y = s.y := rfl
@[simp] theorem State.push_sp (s : State) (v : Byte) : (s.push v).sp = s.sp - 1 := rfl
@[simp] theorem State.push_pc (s : State) (v : Byte) : (s.push v).pc = s.pc := rfl
@[simp] theorem State.push_p (s : State) (v : Byte) : (s.push v).p = s.p := rfl
@[simp] theorem State.push_run (s : State) (v : Byte) : (s.push v).run = s.run := rfl
@[simp] theorem State.push_mem (s : State) (v : Byte) : (s.push v).mem = s.mem.write (stackAddr s.sp).toNat v := rfl
@[simp] theorem State.push_config (s : State) (v : Byte) : (s.push v).config = s.config := rfl

/-! ### pull -/

@[simp] theorem State.pull_a (s : State) : (s.pull).a = s.a := rfl
@[simp] theorem State.pull_x (s : State) : (s.pull).x = s.x := rfl
@[simp] theorem State.pull_y (s : State) : (s.pull).y = s.y := rfl
@[simp] theorem State.pull_sp (s : State) : (s.pull).sp = s.sp + 1 := rfl
@[simp] theorem State.pull_pc (s : State) : (s.pull).pc = s.pc := rfl
@[simp] theorem State.pull_p (s : State) : (s.pull).p = s.p := rfl
@[simp] theorem State.pull_run (s : State) : (s.pull).run = s.run := rfl
@[simp] theorem State.pull_mem (s : State) : (s.pull).mem = s.mem := rfl
@[simp] theorem State.pull_config (s : State) : (s.pull).config = s.config := rfl

/-! ### push16 -/

@[simp] theorem State.push16_a (s : State) (w : Word) : (s.push16 w).a = s.a := rfl
@[simp] theorem State.push16_x (s : State) (w : Word) : (s.push16 w).x = s.x := rfl
@[simp] theorem State.push16_y (s : State) (w : Word) : (s.push16 w).y = s.y := rfl
@[simp] theorem State.push16_sp (s : State) (w : Word) : (s.push16 w).sp = s.sp - 1 - 1 := rfl
@[simp] theorem State.push16_pc (s : State) (w : Word) : (s.push16 w).pc = s.pc := rfl
@[simp] theorem State.push16_p (s : State) (w : Word) : (s.push16 w).p = s.p := rfl
@[simp] theorem State.push16_run (s : State) (w : Word) : (s.push16 w).run = s.run := rfl
@[simp] theorem State.push16_mem (s : State) (w : Word) :
    (s.push16 w).mem = (s.mem.write (stackAddr s.sp).toNat (highByte w)).write (stackAddr (s.sp - 1)).toNat (lowByte w) := rfl
@[simp] theorem State.push16_config (s : State) (w : Word) : (s.push16 w).config = s.config := rfl

/-! ### pull16 -/

@[simp] theorem State.pull16_a (s : State) : (s.pull16).a = s.a := rfl
@[simp] theorem State.pull16_x (s : State) : (s.pull16).x = s.x := rfl
@[simp] theorem State.pull16_y (s : State) : (s.pull16).y = s.y := rfl
@[simp] theorem State.pull16_sp (s : State) : (s.pull16).sp = s.sp + 1 + 1 := rfl
@[simp] theorem State.pull16_pc (s : State) : (s.pull16).pc = s.pc := rfl
@[simp] theorem State.pull16_p (s : State) : (s.pull16).p = s.p := rfl
@[simp] theorem State.pull16_run (s : State) : (s.pull16).run = s.run := rfl
@[simp] theorem State.pull16_mem (s : State) : (s.pull16).mem = s.mem := rfl
@[simp] theorem State.pull16_config (s : State) : (s.pull16).config = s.config := rfl

/-! ### advance -/

@[simp] theorem State.advance_a (s : State) (len : Nat) : (s.advance len).a = s.a := rfl
@[simp] theorem State.advance_x (s : State) (len : Nat) : (s.advance len).x = s.x := rfl
@[simp] theorem State.advance_y (s : State) (len : Nat) : (s.advance len).y = s.y := rfl
@[simp] theorem State.advance_sp (s : State) (len : Nat) : (s.advance len).sp = s.sp := rfl
@[simp] theorem State.advance_pc (s : State) (len : Nat) : (s.advance len).pc = s.pc + BitVec.ofNat 16 len := rfl
@[simp] theorem State.advance_p (s : State) (len : Nat) : (s.advance len).p = s.p := rfl
@[simp] theorem State.advance_run (s : State) (len : Nat) : (s.advance len).run = s.run := rfl
@[simp] theorem State.advance_mem (s : State) (len : Nat) : (s.advance len).mem = s.mem := rfl
@[simp] theorem State.advance_config (s : State) (len : Nat) : (s.advance len).config = s.config := rfl

/-! ### jump -/

@[simp] theorem State.jump_a (s : State) (target : Word) : (s.jump target).a = s.a := rfl
@[simp] theorem State.jump_x (s : State) (target : Word) : (s.jump target).x = s.x := rfl
@[simp] theorem State.jump_y (s : State) (target : Word) : (s.jump target).y = s.y := rfl
@[simp] theorem State.jump_sp (s : State) (target : Word) : (s.jump target).sp = s.sp := rfl
@[simp] theorem State.jump_pc (s : State) (target : Word) : (s.jump target).pc = target := rfl
@[simp] theorem State.jump_p (s : State) (target : Word) : (s.jump target).p = s.p := rfl
@[simp] theorem State.jump_run (s : State) (target : Word) : (s.jump target).run = s.run := rfl
@[simp] theorem State.jump_mem (s : State) (target : Word) : (s.jump target).mem = s.mem := rfl
@[simp] theorem State.jump_config (s : State) (target : Word) : (s.jump target).config = s.config := rfl

/-! ### setA -/

@[simp] theorem State.setA_a (s : State) (v : Byte) : (s.setA v).a = v := rfl
@[simp] theorem State.setA_x (s : State) (v : Byte) : (s.setA v).x = s.x := rfl
@[simp] theorem State.setA_y (s : State) (v : Byte) : (s.setA v).y = s.y := rfl
@[simp] theorem State.setA_sp (s : State) (v : Byte) : (s.setA v).sp = s.sp := rfl
@[simp] theorem State.setA_pc (s : State) (v : Byte) : (s.setA v).pc = s.pc := rfl
@[simp] theorem State.setA_p (s : State) (v : Byte) : (s.setA v).p = s.p.setZN v := rfl
@[simp] theorem State.setA_run (s : State) (v : Byte) : (s.setA v).run = s.run := rfl
@[simp] theorem State.setA_mem (s : State) (v : Byte) : (s.setA v).mem = s.mem := rfl
@[simp] theorem State.setA_config (s : State) (v : Byte) : (s.setA v).config = s.config := rfl

/-! ### setX -/

@[simp] theorem State.setX_a (s : State) (v : Byte) : (s.setX v).a = s.a := rfl
@[simp] theorem State.setX_x (s : State) (v : Byte) : (s.setX v).x = v := rfl
@[simp] theorem State.setX_y (s : State) (v : Byte) : (s.setX v).y = s.y := rfl
@[simp] theorem State.setX_sp (s : State) (v : Byte) : (s.setX v).sp = s.sp := rfl
@[simp] theorem State.setX_pc (s : State) (v : Byte) : (s.setX v).pc = s.pc := rfl
@[simp] theorem State.setX_p (s : State) (v : Byte) : (s.setX v).p = s.p.setZN v := rfl
@[simp] theorem State.setX_run (s : State) (v : Byte) : (s.setX v).run = s.run := rfl
@[simp] theorem State.setX_mem (s : State) (v : Byte) : (s.setX v).mem = s.mem := rfl
@[simp] theorem State.setX_config (s : State) (v : Byte) : (s.setX v).config = s.config := rfl

/-! ### setY -/

@[simp] theorem State.setY_a (s : State) (v : Byte) : (s.setY v).a = s.a := rfl
@[simp] theorem State.setY_x (s : State) (v : Byte) : (s.setY v).x = s.x := rfl
@[simp] theorem State.setY_y (s : State) (v : Byte) : (s.setY v).y = v := rfl
@[simp] theorem State.setY_sp (s : State) (v : Byte) : (s.setY v).sp = s.sp := rfl
@[simp] theorem State.setY_pc (s : State) (v : Byte) : (s.setY v).pc = s.pc := rfl
@[simp] theorem State.setY_p (s : State) (v : Byte) : (s.setY v).p = s.p.setZN v := rfl
@[simp] theorem State.setY_run (s : State) (v : Byte) : (s.setY v).run = s.run := rfl
@[simp] theorem State.setY_mem (s : State) (v : Byte) : (s.setY v).mem = s.mem := rfl
@[simp] theorem State.setY_config (s : State) (v : Byte) : (s.setY v).config = s.config := rfl

/-! ### setAdd -/

@[simp] theorem State.setAdd_a (s : State) (o : AddResult) : (s.setAdd o).a = o.r := rfl
@[simp] theorem State.setAdd_x (s : State) (o : AddResult) : (s.setAdd o).x = s.x := rfl
@[simp] theorem State.setAdd_y (s : State) (o : AddResult) : (s.setAdd o).y = s.y := rfl
@[simp] theorem State.setAdd_sp (s : State) (o : AddResult) : (s.setAdd o).sp = s.sp := rfl
@[simp] theorem State.setAdd_pc (s : State) (o : AddResult) : (s.setAdd o).pc = s.pc := rfl
@[simp] theorem State.setAdd_p (s : State) (o : AddResult) :
    (s.setAdd o).p = { s.p with c := o.cOut, v := o.vOut }.setZN o.r := rfl
@[simp] theorem State.setAdd_run (s : State) (o : AddResult) : (s.setAdd o).run = s.run := rfl
@[simp] theorem State.setAdd_mem (s : State) (o : AddResult) : (s.setAdd o).mem = s.mem := rfl
@[simp] theorem State.setAdd_config (s : State) (o : AddResult) : (s.setAdd o).config = s.config := rfl

/-! ### saveForTrap -/

@[simp] theorem State.saveForTrap_a (s : State) (ret : Word) : (s.saveForTrap ret).a = s.a := rfl
@[simp] theorem State.saveForTrap_x (s : State) (ret : Word) : (s.saveForTrap ret).x = s.x := rfl
@[simp] theorem State.saveForTrap_y (s : State) (ret : Word) : (s.saveForTrap ret).y = s.y := rfl
@[simp] theorem State.saveForTrap_sp (s : State) (ret : Word) : (s.saveForTrap ret).sp = s.sp - 1 - 1 - 1 := rfl
@[simp] theorem State.saveForTrap_pc (s : State) (ret : Word) : (s.saveForTrap ret).pc = s.pc := rfl
@[simp] theorem State.saveForTrap_p (s : State) (ret : Word) : (s.saveForTrap ret).p = s.p := rfl
@[simp] theorem State.saveForTrap_run (s : State) (ret : Word) : (s.saveForTrap ret).run = s.run := rfl
@[simp] theorem State.saveForTrap_mem (s : State) (ret : Word) :
    (s.saveForTrap ret).mem = ((s.push16 ret).mem.write (stackAddr (s.sp - 1 - 1)).toNat s.p.pushed) := rfl
@[simp] theorem State.saveForTrap_config (s : State) (ret : Word) : (s.saveForTrap ret).config = s.config := rfl

/-! ### enterTrap -/

@[simp] theorem State.enterTrap_a (s : State) (ret : Word) : (s.enterTrap ret).a = s.a := by simp [State.enterTrap]
@[simp] theorem State.enterTrap_x (s : State) (ret : Word) : (s.enterTrap ret).x = s.x := by simp [State.enterTrap]
@[simp] theorem State.enterTrap_y (s : State) (ret : Word) : (s.enterTrap ret).y = s.y := by simp [State.enterTrap]
@[simp] theorem State.enterTrap_sp (s : State) (ret : Word) :
    (s.enterTrap ret).sp = s.sp - 1 - 1 - 1 := by simp [State.enterTrap]
@[simp] theorem State.enterTrap_pc (s : State) (ret : Word) :
    (s.enterTrap ret).pc = (s.saveForTrap ret).read16 brkVector := by simp [State.enterTrap]
@[simp] theorem State.enterTrap_p (s : State) (ret : Word) :
    (s.enterTrap ret).p = { s.p with i := true } := by simp [State.enterTrap]
@[simp] theorem State.enterTrap_run (s : State) (ret : Word) :
    (s.enterTrap ret).run = s.run := by simp [State.enterTrap]
@[simp] theorem State.enterTrap_mem (s : State) (ret : Word) :
    (s.enterTrap ret).mem = (s.saveForTrap ret).mem := by simp [State.enterTrap]
@[simp] theorem State.enterTrap_config (s : State) (ret : Word) :
    (s.enterTrap ret).config = s.config := by simp [State.enterTrap]

/-! ### returnFromTrap -/

@[simp] theorem State.returnFromTrap_a (s : State) : (s.returnFromTrap).a = s.a := rfl
@[simp] theorem State.returnFromTrap_x (s : State) : (s.returnFromTrap).x = s.x := rfl
@[simp] theorem State.returnFromTrap_y (s : State) : (s.returnFromTrap).y = s.y := rfl
@[simp] theorem State.returnFromTrap_sp (s : State) : (s.returnFromTrap).sp = s.sp + 1 + 1 + 1 := rfl
@[simp] theorem State.returnFromTrap_pc (s : State) : (s.returnFromTrap).pc = s.pull.pulled16 := rfl
@[simp] theorem State.returnFromTrap_p (s : State) : (s.returnFromTrap).p = Flags.unpack s.pulled := rfl
@[simp] theorem State.returnFromTrap_run (s : State) : (s.returnFromTrap).run = s.run := rfl
@[simp] theorem State.returnFromTrap_mem (s : State) : (s.returnFromTrap).mem = s.mem := rfl
@[simp] theorem State.returnFromTrap_config (s : State) : (s.returnFromTrap).config = s.config := rfl

/-! ### haltUnknownOpcode -/

@[simp] theorem State.haltUnknownOpcode_a (s : State) : (s.haltUnknownOpcode).a = s.a := rfl
@[simp] theorem State.haltUnknownOpcode_x (s : State) : (s.haltUnknownOpcode).x = s.x := rfl
@[simp] theorem State.haltUnknownOpcode_y (s : State) : (s.haltUnknownOpcode).y = s.y := rfl
@[simp] theorem State.haltUnknownOpcode_sp (s : State) : (s.haltUnknownOpcode).sp = s.sp := rfl
@[simp] theorem State.haltUnknownOpcode_pc (s : State) : (s.haltUnknownOpcode).pc = s.pc := rfl
@[simp] theorem State.haltUnknownOpcode_p (s : State) : (s.haltUnknownOpcode).p = s.p := rfl
@[simp] theorem State.haltUnknownOpcode_run (s : State) :
    (s.haltUnknownOpcode).run = .halted { byte := s.read s.pc, address := s.pc } := rfl
@[simp] theorem State.haltUnknownOpcode_mem (s : State) : (s.haltUnknownOpcode).mem = s.mem := rfl
@[simp] theorem State.haltUnknownOpcode_config (s : State) : (s.haltUnknownOpcode).config = s.config := rfl

/-! ### clearMemory -/

@[simp] theorem State.clearMemory_a (s : State) : (s.clearMemory).a = s.a := rfl
@[simp] theorem State.clearMemory_x (s : State) : (s.clearMemory).x = s.x := rfl
@[simp] theorem State.clearMemory_y (s : State) : (s.clearMemory).y = s.y := rfl
@[simp] theorem State.clearMemory_sp (s : State) : (s.clearMemory).sp = s.sp := rfl
@[simp] theorem State.clearMemory_pc (s : State) : (s.clearMemory).pc = s.pc := rfl
@[simp] theorem State.clearMemory_p (s : State) : (s.clearMemory).p = s.p := rfl
@[simp] theorem State.clearMemory_run (s : State) : (s.clearMemory).run = s.run := rfl
@[simp] theorem State.clearMemory_mem (s : State) : (s.clearMemory).mem = [] := rfl
@[simp] theorem State.clearMemory_config (s : State) : (s.clearMemory).config = s.config := rfl

/-! ### coreReset -/

@[simp] theorem State.coreReset_a (s : State) : (s.coreReset).a = 0x00 := rfl
@[simp] theorem State.coreReset_x (s : State) : (s.coreReset).x = 0x00 := rfl
@[simp] theorem State.coreReset_y (s : State) : (s.coreReset).y = 0x00 := rfl
@[simp] theorem State.coreReset_sp (s : State) : (s.coreReset).sp = 0xFF := rfl
@[simp] theorem State.coreReset_pc (s : State) : (s.coreReset).pc = s.read16 resetVector := rfl
@[simp] theorem State.coreReset_p (s : State) : (s.coreReset).p = resetFlags s.config.resetFlags := rfl
@[simp] theorem State.coreReset_run (s : State) : (s.coreReset).run = .ready := rfl
@[simp] theorem State.coreReset_mem (s : State) : (s.coreReset).mem = s.mem := rfl
@[simp] theorem State.coreReset_config (s : State) : (s.coreReset).config = s.config := rfl

/-! ### setZN and unpack -/

@[simp] theorem Flags.setZN_c (p : Flags) (w : Byte) : (p.setZN w).c = p.c := rfl
@[simp] theorem Flags.setZN_z (p : Flags) (w : Byte) : (p.setZN w).z = (w == 0) := rfl
@[simp] theorem Flags.setZN_i (p : Flags) (w : Byte) : (p.setZN w).i = p.i := rfl
@[simp] theorem Flags.setZN_d (p : Flags) (w : Byte) : (p.setZN w).d = p.d := rfl
@[simp] theorem Flags.setZN_b (p : Flags) (w : Byte) : (p.setZN w).b = p.b := rfl
@[simp] theorem Flags.setZN_u (p : Flags) (w : Byte) : (p.setZN w).u = p.u := rfl
@[simp] theorem Flags.setZN_v (p : Flags) (w : Byte) : (p.setZN w).v = p.v := rfl
@[simp] theorem Flags.setZN_n (p : Flags) (w : Byte) : (p.setZN w).n = w[7] := rfl

@[simp] theorem Flags.unpack_c (w : Byte) : (Flags.unpack w).c = w[0] := rfl
@[simp] theorem Flags.unpack_z (w : Byte) : (Flags.unpack w).z = w[1] := rfl
@[simp] theorem Flags.unpack_i (w : Byte) : (Flags.unpack w).i = w[2] := rfl
@[simp] theorem Flags.unpack_d (w : Byte) : (Flags.unpack w).d = w[3] := rfl
@[simp] theorem Flags.unpack_b (w : Byte) : (Flags.unpack w).b = w[4] := rfl
@[simp] theorem Flags.unpack_u (w : Byte) : (Flags.unpack w).u = true := rfl
@[simp] theorem Flags.unpack_v (w : Byte) : (Flags.unpack w).v = w[6] := rfl
@[simp] theorem Flags.unpack_n (w : Byte) : (Flags.unpack w).n = w[7] := rfl

/-! ### What a register update leaves of memory accesses -/

@[simp] theorem State.advance_read (s : State) (len : Nat) (addr : Word) : (s.advance len).read addr = s.read addr := rfl
@[simp] theorem State.advance_ea (s : State) (len : Nat) (mode : AddrMode) : (s.advance len).ea mode = s.ea mode := by
  cases mode <;> rfl
@[simp] theorem State.jump_read (s : State) (target addr : Word) : (s.jump target).read addr = s.read addr := rfl
@[simp] theorem State.pull_read (s : State) (addr : Word) : s.pull.read addr = s.read addr := rfl
@[simp] theorem State.pull16_read (s : State) (addr : Word) : s.pull16.read addr = s.read addr := rfl

/-- Reading depends on memory alone. -/
theorem State.read_congr {s t : State} (h : s.mem = t.mem) (addr : Word) : s.read addr = t.read addr := by
  simp only [State.read, h]

end Sys2Proof.Machine
end

