-- ==== Sys2Proof/Laws/Memory.lean ====
section
/-! SUPPORT. The laws of memory: a read after a write, the canonical form, and that memories in the canonical form which
read alike are equal. -/

namespace Sys2Proof.Machine

@[simp] theorem Memory.read_nil (addr : Nat) : Memory.read [] addr = unlisted := rfl

theorem Memory.read_cons (k : Nat) (v : Byte) (m : Memory) (addr : Nat) :
    Memory.read ((k, v) :: m) addr = if addr = k then v else Memory.read m addr := rfl

theorem Memory.read_insert_same (m : Memory) (addr : Nat) (v : Byte) : (m.insert addr v).read addr = v := by
  induction m with
  | nil => simp [Memory.insert, Memory.read]
  | cons e m ih =>
    obtain ⟨k, w⟩ := e
    simp only [Memory.insert]
    split
    · simp [Memory.read]
    · split
      · simp [Memory.read]
      · simp [Memory.read, *]

theorem Memory.read_insert_other (m : Memory) {addr other : Nat} (v : Byte) (h : other ≠ addr) :
    (m.insert addr v).read other = m.read other := by
  induction m with
  | nil => simp [Memory.insert, Memory.read, h]
  | cons e m ih =>
    obtain ⟨k, w⟩ := e
    simp only [Memory.insert]
    split
    · simp [Memory.read, h]
    · split
      · subst_vars; simp [Memory.read, h]
      · simp [Memory.read, ih]

theorem Memory.read_erase_same (m : Memory) (addr : Nat) : (m.erase addr).read addr = unlisted := by
  induction m with
  | nil => rfl
  | cons e m ih =>
    obtain ⟨k, w⟩ := e
    by_cases hk : k = addr
    · simpa [Memory.erase, hk] using ih
    · have : addr ≠ k := fun h => hk h.symm
      simpa [Memory.erase, hk, Memory.read, this] using ih

theorem Memory.read_erase_other (m : Memory) {addr other : Nat} (h : other ≠ addr) :
    (m.erase addr).read other = m.read other := by
  induction m with
  | nil => rfl
  | cons e m ih =>
    obtain ⟨k, w⟩ := e
    by_cases hk : k = addr
    · subst hk; simpa [Memory.erase, Memory.read, h] using ih
    · simp only [Memory.erase] at ih
      simp [Memory.erase, hk, Memory.read, ih]

@[simp] theorem Memory.read_write_same (m : Memory) (addr : Nat) (v : Byte) : (m.write addr v).read addr = v := by
  unfold Memory.write
  split
  · simp [Memory.read_erase_same, *]
  · exact Memory.read_insert_same ..

theorem Memory.read_write_other (m : Memory) {addr other : Nat} (v : Byte) (h : other ≠ addr) :
    (m.write addr v).read other = m.read other := by
  unfold Memory.write
  split
  · exact Memory.read_erase_other m h
  · exact Memory.read_insert_other m v h

/-- Reading after one write, said once. -/
theorem Memory.read_write (m : Memory) (addr other : Nat) (v : Byte) :
    (m.write addr v).read other = if other = addr then v else m.read other := by
  split
  · subst_vars; simp
  · exact Memory.read_write_other m v ‹_›

@[simp] theorem State.read_write_same (s : State) (addr : Word) (v : Byte) : (s.write addr v).read addr = v :=
  Memory.read_write_same ..

theorem State.read_write_other (s : State) {addr other : Word} (v : Byte) (h : other ≠ addr) :
    (s.write addr v).read other = s.read other :=
  Memory.read_write_other _ _ fun e => h (BitVec.eq_of_toNat_eq e)

/-- Reading after one write, said once. -/
theorem State.read_write (s : State) (addr other : Word) (v : Byte) :
    (s.write addr v).read other = if other = addr then v else s.read other := by
  split
  · subst_vars; simp
  · exact State.read_write_other s v ‹_›

/-! ### The canonical form -/

theorem Memory.wf_nil : Memory.wf [] := ⟨List.Pairwise.nil, fun _ h => absurd h List.not_mem_nil⟩

theorem Memory.mem_insert {m : Memory} {addr : Nat} {v : Byte} {e : Host.Cell} (h : e ∈ m.insert addr v) :
    e = (addr, v) ∨ e ∈ m := by
  induction m with
  | nil => exact .inl (List.mem_singleton.mp h)
  | cons f m ih =>
    obtain ⟨k, w⟩ := f
    simp only [Memory.insert] at h
    split at h
    · simpa using h
    · split at h
      · simp only [List.mem_cons] at h ⊢; tauto
      · simp only [List.mem_cons] at h ⊢
        rcases h with h | h
        · exact .inr (.inl h)
        · rcases ih h with h | h
          · exact .inl h
          · exact .inr (.inr h)

theorem Memory.insert_pairwise {m : Memory} (addr : Nat) (v : Byte) (h : m.Pairwise fun e f => e.1 < f.1) :
    (m.insert addr v).Pairwise fun e f => e.1 < f.1 := by
  induction m with
  | nil => simp [Memory.insert]
  | cons e m ih =>
    obtain ⟨k, w⟩ := e
    obtain ⟨hk, hm⟩ := List.pairwise_cons.mp h
    simp only [Memory.insert]
    split
    · refine List.pairwise_cons.mpr ⟨fun f hf => ?_, h⟩
      rcases List.mem_cons.mp hf with rfl | hf
      · assumption
      · have hf' := hk f hf; exact Nat.lt_trans ‹addr < k› hf'
    · split
      · subst_vars; exact List.pairwise_cons.mpr ⟨hk, hm⟩
      · refine List.pairwise_cons.mpr ⟨fun f hf => ?_, ih hm⟩
        rcases Memory.mem_insert hf with rfl | hf
        · change k < addr; omega
        · exact hk f hf

/-- Every write keeps the canonical form. -/
theorem Memory.wf_write {m : Memory} {addr : Nat} (v : Byte) (h : m.wf) (ha : addr < 65536) : (m.write addr v).wf := by
  unfold Memory.write
  split
  · exact ⟨h.1.filter _, fun e he => h.2 e (List.mem_filter.mp he).1⟩
  · refine ⟨Memory.insert_pairwise addr v h.1, fun e he => ?_⟩
    rcases Memory.mem_insert he with rfl | he
    · exact ⟨ha, ‹_›⟩
    · exact h.2 e he

theorem State.write_wf {s : State} (addr : Word) (v : Byte) (h : s.mem.wf) : (s.write addr v).mem.wf :=
  Memory.wf_write v h addr.isLt

theorem State.push_wf {s : State} (v : Byte) (h : s.mem.wf) : (s.push v).mem.wf := State.write_wf _ v h

theorem State.push16_wf {s : State} (w : Word) (h : s.mem.wf) : (s.push16 w).mem.wf :=
  State.push_wf _ (State.push_wf _ h)

theorem State.saveForTrap_wf {s : State} (ret : Word) (h : s.mem.wf) : (s.saveForTrap ret).mem.wf :=
  State.push_wf _ (State.push16_wf ret h)

theorem State.enterTrap_wf {s : State} (ret : Word) (h : s.mem.wf) : (s.enterTrap ret).mem.wf := by
  rw [State.enterTrap_mem]
  exact State.saveForTrap_wf ret h

theorem Place.store_wf {s : State} (place : Place) (r : Byte) (h : s.mem.wf) : (place.store r s).mem.wf := by
  cases place with
  | accumulator => exact h
  | addressed mode => exact State.write_wf _ r h

theorem State.writeBytes_wf (bytes : List Byte) : ∀ {s : State} (addr : Word), s.mem.wf → (s.writeBytes addr bytes).mem.wf := by
  induction bytes with
  | nil => exact fun _ h => h
  | cons b bytes ih => exact fun addr h => ih (addr + 1) (State.write_wf addr b h)

theorem State.clearMemory_wf (s : State) : s.clearMemory.mem.wf := Memory.wf_nil

/-- An address below every entry is not listed. -/
theorem Memory.read_of_lt {m : Memory} {addr : Nat} (h : ∀ e ∈ m, addr < e.1) : m.read addr = unlisted := by
  induction m with
  | nil => rfl
  | cons e m ih =>
    obtain ⟨k, w⟩ := e
    have hk : addr < k := h (k, w) (by simp)
    rw [Memory.read_cons, if_neg (by omega)]
    exact ih fun f hf => h f (by simp [hf])

/-- Memories in the canonical form that read alike are equal. -/
theorem Memory.eq_of_read {m m' : Memory} (h : m.wf) (h' : m'.wf) (hr : ∀ addr, m.read addr = m'.read addr) : m = m' := by
  induction m generalizing m' with
  | nil =>
    cases m' with
    | nil => rfl
    | cons e m' =>
      obtain ⟨k, w⟩ := e
      have := hr k
      simp only [Memory.read_nil, Memory.read_cons, if_true] at this
      exact absurd this.symm (h'.2 (k, w) (by simp)).2
  | cons e m ih =>
    obtain ⟨k, w⟩ := e
    have hkw : w ≠ unlisted := (h.2 (k, w) (by simp)).2
    obtain ⟨hk, hm⟩ := List.pairwise_cons.mp h.1
    cases m' with
    | nil =>
      have := hr k
      simp only [Memory.read_nil, Memory.read_cons, if_true] at this
      exact absurd this hkw
    | cons e' m' =>
      obtain ⟨k', w'⟩ := e'
      have hkw' : w' ≠ unlisted := (h'.2 (k', w') (by simp)).2
      obtain ⟨hk', hm'⟩ := List.pairwise_cons.mp h'.1
      have hkk : k = k' := by
        rcases Nat.lt_trichotomy k k' with hlt | heq | hgt
        · exfalso
          have h1 := hr k
          rw [Memory.read_cons, if_pos rfl, Memory.read_of_lt (m := (k', w') :: m')] at h1
          · exact hkw h1
          · intro f hf
            rcases List.mem_cons.mp hf with rfl | hf
            · exact hlt
            · exact Nat.lt_trans hlt (hk' f hf)
        · exact heq
        · exfalso
          have h1 := hr k'
          rw [Memory.read_cons k', if_pos rfl, Memory.read_of_lt (m := (k, w) :: m)] at h1
          · exact hkw' h1.symm
          · intro f hf
            rcases List.mem_cons.mp hf with rfl | hf
            · exact hgt
            · exact Nat.lt_trans hgt (hk f hf)
      subst hkk
      have hww : w = w' := by simpa [Memory.read_cons] using hr k
      subst hww
      have tail : m = m' := by
        refine ih ⟨hm, fun f hf => h.2 f (by simp [hf])⟩ ⟨hm', fun f hf => h'.2 f (by simp [hf])⟩ fun addr => ?_
        by_cases ha : addr = k
        · subst ha
          rw [Memory.read_of_lt (m := m) fun f hf => hk f hf, Memory.read_of_lt (m := m') fun f hf => hk' f hf]
        · simpa [Memory.read_cons, ha] using hr addr
      rw [tail]

end Sys2Proof.Machine
end

