-- ==== Sys2Proof/Laws/Bytes.lean ====
section
/-! SUPPORT. Bytes and words, stack addresses, and what the stack operations read and write. -/

namespace Sys2Proof

theorem wordOfBytes_toNat (lo hi : Byte) : (wordOfBytes lo hi).toNat = hi.toNat * 256 + lo.toNat := by
  have h := lo.isLt
  change (hi ++ lo).toNat = _
  rw [BitVec.toNat_append, ← Nat.shiftLeft_add_eq_or_of_lt h, Nat.shiftLeft_eq]

theorem lowByte_toNat (w : Word) : (lowByte w).toNat = w.toNat % 256 := by
  simp [lowByte, BitVec.extractLsb'_toNat]

theorem highByte_toNat (w : Word) : (highByte w).toNat = w.toNat / 256 := by
  have := w.isLt
  simp only [highByte, BitVec.extractLsb'_toNat, Nat.shiftRight_eq_div_pow]
  omega

@[simp] theorem wordOfBytes_low_high (w : Word) : wordOfBytes (lowByte w) (highByte w) = w := by
  refine BitVec.eq_of_toNat_eq ?_
  rw [wordOfBytes_toNat, lowByte_toNat, highByte_toNat]
  omega

@[simp] theorem lowByte_wordOfBytes (lo hi : Byte) : lowByte (wordOfBytes lo hi) = lo := by
  refine BitVec.eq_of_toNat_eq ?_
  rw [lowByte_toNat, wordOfBytes_toNat]
  omega

@[simp] theorem highByte_wordOfBytes (lo hi : Byte) : highByte (wordOfBytes lo hi) = hi := by
  refine BitVec.eq_of_toNat_eq ?_
  rw [highByte_toNat, wordOfBytes_toNat]
  omega

namespace Machine

theorem stackAddr_toNat (sp : Byte) : (stackAddr sp).toNat = 0x0100 + sp.toNat := by
  have := sp.isLt
  simp only [stackAddr, BitVec.toNat_add, BitVec.toNat_setWidth, BitVec.reduceToNat]
  omega

@[simp] theorem stackAddr_inj (sp sp' : Byte) : stackAddr sp = stackAddr sp' ↔ sp = sp' := by
  refine ⟨fun h => BitVec.eq_of_toNat_eq ?_, fun h => h ▸ rfl⟩
  have := congrArg BitVec.toNat h
  rw [stackAddr_toNat, stackAddr_toNat] at this
  omega

/-- Reading after a push, said once. -/
theorem State.read_push (s : State) (v : Byte) (addr : Word) :
    (s.push v).read addr = if addr = stackAddr s.sp then v else s.read addr := State.read_write s _ addr v

/-- Reading after a 16-bit push, said once: two different stack locations. -/
theorem State.read_push16 (s : State) (w : Word) (addr : Word) :
    (s.push16 w).read addr =
      if addr = stackAddr (s.sp - 1) then lowByte w else if addr = stackAddr s.sp then highByte w else s.read addr := by
  rw [State.push16, State.read_push, State.read_push, State.push_sp]

/-- A write outside the bytes read leaves a 16-bit read alone. -/
theorem State.read16_write_other (s : State) (addr target : Word) (v : Byte) (h : target ≠ addr) (h' : target ≠ addr + 1) :
    (s.write target v).read16 addr = s.read16 addr := by
  simp only [State.read16, State.read_write, if_neg h.symm, if_neg h'.symm]

/-- No stack location is a byte of the BRK vector. -/
theorem stackAddr_ne_brkVector (sp : Byte) : stackAddr sp ≠ brkVector ∧ stackAddr sp ≠ brkVector + 1 := by
  have := sp.isLt
  constructor <;> intro h <;> have := congrArg BitVec.toNat h <;> rw [stackAddr_toNat] at this <;>
    simp [brkVector] at this <;> omega

end Machine

end Sys2Proof
end

