-- ==== Sys2Proof/Laws/Decode.lean ====
section
/-! SUPPORT. The decode table as data: 151 rows, no two of them with one opcode, so a row of the table is the row its
opcode finds. -/

namespace Sys2Proof

theorem decodeTable_length : decodeTable.length = 151 := by decide +kernel

/-- No two rows overlap. -/
theorem decodeTable_opcodes_nodup : (decodeTable.map Row.opcode).Nodup := by decide +kernel

/-- A row found for an opcode is in the table and has that opcode. -/
theorem findRow_some {opcode : Byte} {row : Row} (h : findRow opcode = some row) :
    row ∈ decodeTable ∧ row.opcode = opcode :=
  ⟨List.mem_of_find?_eq_some h, by simpa using List.find?_some h⟩

/-- The first row of a list without repeated opcodes that has a given row's opcode is that row. -/
theorem find_row_of_mem {rows : List Row} {row : Row} (nodup : (rows.map Row.opcode).Nodup) (h : row ∈ rows) :
    rows.find? (fun r => r.opcode == row.opcode) = some row := by
  induction rows with
  | nil => cases h
  | cons r rows ih =>
    rw [List.map_cons, List.nodup_cons] at nodup
    rcases List.mem_cons.mp h with rfl | h
    · simp
    · have : r.opcode ≠ row.opcode := fun e => nodup.1 (e ▸ List.mem_map_of_mem h)
      simpa [List.find?_cons, this] using ih nodup.2 h

/-- A row of the table is the row its opcode finds. -/
theorem findRow_of_mem {row : Row} (h : row ∈ decodeTable) : findRow row.opcode = some row :=
  find_row_of_mem decodeTable_opcodes_nodup h

/-- Decoding at an opcode with no row. -/
theorem decode_of_none {opcode : Byte} (rest : List Byte) (h : findRow opcode = none) :
    decode (opcode :: rest) = .error (.unknownOpcode opcode) := by
  simp [decode, h]

theorem decode_f1 {opcode : Byte} {m : Mnemonic} {mode : Mode} {i : Instr} (rest : List Byte)
    (h : findRow opcode = some ⟨opcode, m, mode, .f1 i⟩) : decode (opcode :: rest) = .ok (i, rest) := by
  simp [decode, h]

theorem decode_f2 {opcode : Byte} {m : Mnemonic} {mode : Mode} {build : Byte → Instr} (b1 : Byte) (rest : List Byte)
    (h : findRow opcode = some ⟨opcode, m, mode, .f2 build⟩) : decode (opcode :: b1 :: rest) = .ok (build b1, rest) := by
  simp [decode, h]

theorem decode_f3 {opcode : Byte} {m : Mnemonic} {mode : Mode} {build : Word → Instr} (b1 b2 : Byte) (rest : List Byte)
    (h : findRow opcode = some ⟨opcode, m, mode, .f3 build⟩) :
    decode (opcode :: b1 :: b2 :: rest) = .ok (build (wordOfBytes b1 b2), rest) := by
  simp [decode, h]

/-- Every row's mode gives its format's length (30_encoding.md R81). -/
theorem decodeTable_mode_length : ∀ row ∈ decodeTable, row.mode.length =
    match row.template with
    | .f1 _ => 1
    | .f2 _ => 2
    | .f3 _ => 3 := by
  simp only [decodeTable, decodeRows0, decodeRows1, decodeRows2, decodeRows3, decodeRows4, decodeRows5, decodeRows6,
    decodeRows7, decodeRows8, decodeRows9, decodeRowsA, decodeRowsB, decodeRowsC, decodeRowsD, decodeRowsE, decodeRowsF,
    List.forall_mem_append, List.forall_mem_cons, Mode.length, List.not_mem_nil, false_imp_iff, implies_true, and_true]

end Sys2Proof
end

