-- ==== Sys2Proof/Laws/Families.lean ====
section
/-! SUPPORT. Everything each shared operation of the instruction families can do, said once: if it answers a next state,
that state is the state before with exactly these fields replaced. -/

namespace Sys2Proof.Machine

variable {s t : State}

/-! ### Operands -/

/-- Reading after the operand is written, said once. -/
theorem Place.read_store (place : Place) (r : Byte) (s : State) (addr : Word) :
    (place.store r s).read addr =
      match place with
      | .accumulator => s.read addr
      | .addressed mode => if addr = s.ea mode then r else s.read addr := by
  cases place with
  | accumulator => rfl
  | addressed mode => exact State.read_write s _ addr r

/-- The operand written is the operand read: the accumulator, or the byte at the effective address as it was resolved. -/
theorem Place.store_eq (place : Place) (r : Byte) (s : State) :
    place.store r s =
      match place with
      | .accumulator => { s with a := r }
      | .addressed mode => { s with mem := s.mem.write (s.ea mode).toNat r } := by
  cases place <;> rfl

/-! ### Loads, stores, transfers -/

theorem lda_next {src : Source} (h : lda src s = .next t) :
    t = { s with a := src.value s, p := s.p.setZN (src.value s), pc := s.pc + BitVec.ofNat 16 src.length } := by
  cases h; rfl

theorem ldx_next {src : Source} (h : ldx src s = .next t) :
    t = { s with x := src.value s, p := s.p.setZN (src.value s), pc := s.pc + BitVec.ofNat 16 src.length } := by
  cases h; rfl

theorem ldy_next {src : Source} (h : ldy src s = .next t) :
    t = { s with y := src.value s, p := s.p.setZN (src.value s), pc := s.pc + BitVec.ofNat 16 src.length } := by
  cases h; rfl

theorem storeByte_next {mode : AddrMode} {v : Byte} (h : storeByte mode v s = .next t) :
    t = { s with mem := s.mem.write (s.ea mode).toNat v, pc := s.pc + BitVec.ofNat 16 mode.mode.length } := by
  cases h; rfl

/-! ### Arithmetic and logic -/

theorem adc_next {src : Source} {o : AddResult} (ho : o = addCore s.a (src.value s) s.p.c) (h : adc src s = .next t) :
    t = { s with a := o.r, p := { s.p with c := o.cOut, v := o.vOut }.setZN o.r,
                 pc := s.pc + BitVec.ofNat 16 src.length } := by
  cases h; cases ho; rfl

theorem sbc_next {src : Source} {o : AddResult} (ho : o = subCore s.a (src.value s) s.p.c) (h : sbc src s = .next t) :
    t = { s with a := o.r, p := { s.p with c := o.cOut, v := o.vOut }.setZN o.r,
                 pc := s.pc + BitVec.ofNat 16 src.length } := by
  cases h; cases ho; rfl

theorem andA_next {src : Source} {r : Byte} (hr : r = s.a &&& src.value s) (h : andA src s = .next t) :
    t = { s with a := r, p := s.p.setZN r, pc := s.pc + BitVec.ofNat 16 src.length } := by
  cases h; cases hr; rfl

theorem oraA_next {src : Source} {r : Byte} (hr : r = s.a ||| src.value s) (h : oraA src s = .next t) :
    t = { s with a := r, p := s.p.setZN r, pc := s.pc + BitVec.ofNat 16 src.length } := by
  cases h; cases hr; rfl

theorem eorA_next {src : Source} {r : Byte} (hr : r = s.a ^^^ src.value s) (h : eorA src s = .next t) :
    t = { s with a := r, p := s.p.setZN r, pc := s.pc + BitVec.ofNat 16 src.length } := by
  cases h; cases hr; rfl

theorem bitTest_next {mode : AddrMode} {m : Byte} (hm : m = s.read (s.ea mode)) (h : bitTest mode s = .next t) :
    t = { s with p := { s.p with z := (s.a &&& m) == 0, n := m[7], v := m[6] },
                 pc := s.pc + BitVec.ofNat 16 mode.mode.length } := by
  cases h; cases hm; rfl

theorem updateByte_next {f : Byte → Byte} {mode : AddrMode} {r : Byte} (hr : r = f (s.read (s.ea mode)))
    (h : updateByte f mode s = .next t) :
    t = { s with mem := s.mem.write (s.ea mode).toNat r, p := s.p.setZN r,
                 pc := s.pc + BitVec.ofNat 16 mode.mode.length } := by
  cases h; cases hr; rfl

theorem compare_next {reg : Byte} {src : Source} {o : CompareResult} (ho : o = compareCore reg (src.value s))
    (h : compare reg src s = .next t) :
    t = { s with p := { s.p with c := o.c, z := o.z, n := o.n }, pc := s.pc + BitVec.ofNat 16 src.length } := by
  cases h; cases ho; rfl

/-- A shift of the accumulator stores nothing; a shift of memory leaves A. -/
theorem shiftPlace_next {core : Byte → ShiftResult} {place : Place} {o : ShiftResult} (ho : o = core (place.value s))
    (h : shiftPlace core place s = .next t) :
    t = match place with
      | .accumulator => { s with a := o.r, p := { s.p with c := o.cOut }.setZN o.r, pc := s.pc + 1 }
      | .addressed mode => { s with mem := s.mem.write (s.ea mode).toNat o.r,
                                    p := { s.p with c := o.cOut }.setZN o.r,
                                    pc := s.pc + BitVec.ofNat 16 mode.mode.length } := by
  cases ho
  cases place with
  | accumulator => cases h; rfl
  | addressed mode => cases h; simp only [Place.store, Place.value, Place.length, Place.operand, State.advance_ea]; rfl

/-! ### Control flow -/

theorem branch_next {taken : Bool} {disp : Byte} (h : branch taken disp s = .next t) :
    t = { s with pc := if taken then branchTarget s.pc disp else s.pc + 2 } := by
  cases h; cases taken <;> rfl

theorem callSubroutine_next {target : Word} (h : callSubroutine target s = .next t) :
    t = { s with mem := (s.push16 (s.pc + 2)).mem, sp := s.sp - 1 - 1, pc := target } := by
  cases h; rfl

theorem returnFromSubroutine_next (h : returnFromSubroutine s = .next t) :
    t = { s with sp := s.sp + 1 + 1, pc := s.pulled16 + 1 } := by
  cases h; rfl

/-- Reading after the trap saves its return address and the status, said once: three different stack locations. -/
theorem State.read_saveForTrap (s : State) (ret : Word) (addr : Word) :
    (s.saveForTrap ret).read addr =
      if addr = stackAddr (s.sp - 1 - 1) then s.p.pushed
      else if addr = stackAddr (s.sp - 1) then lowByte ret
      else if addr = stackAddr s.sp then highByte ret
      else s.read addr := by
  rw [State.saveForTrap, State.read_push, State.push16_sp, State.read_push16]

/-- The three stores of the trap are in the stack page, so the vector it reads last is the vector before it. -/
theorem State.saveForTrap_vector (s : State) (ret : Word) :
    (s.saveForTrap ret).read16 brkVector = s.read16 brkVector := by
  have low := fun sp => (stackAddr_ne_brkVector sp).1.symm
  have high := fun sp => (stackAddr_ne_brkVector sp).2.symm
  simp only [State.read16, State.read_saveForTrap, if_neg (low _), if_neg (high _)]

/-- Taking the trap, all of it. -/
theorem State.enterTrap_eq (s : State) (ret : Word) :
    s.enterTrap ret = { s with mem := (s.saveForTrap ret).mem, sp := s.sp - 1 - 1 - 1, p := { s.p with i := true },
                               pc := s.read16 brkVector } := by
  rw [State.mk.injEq]
  simp [State.saveForTrap_vector]

/-- Returning from the trap, all of it. -/
theorem State.returnFromTrap_eq (s : State) :
    s.returnFromTrap = { s with sp := s.sp + 1 + 1 + 1, p := Flags.unpack s.pulled, pc := s.pull.pulled16 } := rfl

end Sys2Proof.Machine
end

