-- ==== Sys2Proof/Laws/PerInstr.lean ====
section
/-! SUPPORT. Families of lemmas that hold of every instruction, one lemma for each constructor. -/

/-- Every instruction's pairing of mnemonic and mode is one of the matrix of 30_encoding.md R95, and its encoding is as
long as its mode says (R81). -/
def Sys2Proof.Laws.Pairing.Statement (i : Sys2Proof.Instr) : Prop :=
  i.wellFormed = true ∧ (Sys2Proof.encode i).length = i.length

namespace Sys2Proof.Laws.Pairing

theorem ldaImmediate (value : Byte) : Statement (.ldaImmediate value) := ⟨rfl, rfl⟩
theorem ldaZeroPage (addr : Byte) : Statement (.ldaZeroPage addr) := ⟨rfl, rfl⟩
theorem ldaZeroPageX (addr : Byte) : Statement (.ldaZeroPageX addr) := ⟨rfl, rfl⟩
theorem ldaAbsolute (addr : Word) : Statement (.ldaAbsolute addr) := ⟨rfl, rfl⟩
theorem ldaAbsoluteX (addr : Word) : Statement (.ldaAbsoluteX addr) := ⟨rfl, rfl⟩
theorem ldaAbsoluteY (addr : Word) : Statement (.ldaAbsoluteY addr) := ⟨rfl, rfl⟩
theorem ldaIndexedIndirect (ptr : Byte) : Statement (.ldaIndexedIndirect ptr) := ⟨rfl, rfl⟩
theorem ldaIndirectIndexed (ptr : Byte) : Statement (.ldaIndirectIndexed ptr) := ⟨rfl, rfl⟩
theorem ldxImmediate (value : Byte) : Statement (.ldxImmediate value) := ⟨rfl, rfl⟩
theorem ldxZeroPage (addr : Byte) : Statement (.ldxZeroPage addr) := ⟨rfl, rfl⟩
theorem ldxZeroPageY (addr : Byte) : Statement (.ldxZeroPageY addr) := ⟨rfl, rfl⟩
theorem ldxAbsolute (addr : Word) : Statement (.ldxAbsolute addr) := ⟨rfl, rfl⟩
theorem ldxAbsoluteY (addr : Word) : Statement (.ldxAbsoluteY addr) := ⟨rfl, rfl⟩
theorem ldyImmediate (value : Byte) : Statement (.ldyImmediate value) := ⟨rfl, rfl⟩
theorem ldyZeroPage (addr : Byte) : Statement (.ldyZeroPage addr) := ⟨rfl, rfl⟩
theorem ldyZeroPageX (addr : Byte) : Statement (.ldyZeroPageX addr) := ⟨rfl, rfl⟩
theorem ldyAbsolute (addr : Word) : Statement (.ldyAbsolute addr) := ⟨rfl, rfl⟩
theorem ldyAbsoluteX (addr : Word) : Statement (.ldyAbsoluteX addr) := ⟨rfl, rfl⟩
theorem staZeroPage (addr : Byte) : Statement (.staZeroPage addr) := ⟨rfl, rfl⟩
theorem staZeroPageX (addr : Byte) : Statement (.staZeroPageX addr) := ⟨rfl, rfl⟩
theorem staAbsolute (addr : Word) : Statement (.staAbsolute addr) := ⟨rfl, rfl⟩
theorem staAbsoluteX (addr : Word) : Statement (.staAbsoluteX addr) := ⟨rfl, rfl⟩
theorem staAbsoluteY (addr : Word) : Statement (.staAbsoluteY addr) := ⟨rfl, rfl⟩
theorem staIndexedIndirect (ptr : Byte) : Statement (.staIndexedIndirect ptr) := ⟨rfl, rfl⟩
theorem staIndirectIndexed (ptr : Byte) : Statement (.staIndirectIndexed ptr) := ⟨rfl, rfl⟩
theorem stxZeroPage (addr : Byte) : Statement (.stxZeroPage addr) := ⟨rfl, rfl⟩
theorem stxZeroPageY (addr : Byte) : Statement (.stxZeroPageY addr) := ⟨rfl, rfl⟩
theorem stxAbsolute (addr : Word) : Statement (.stxAbsolute addr) := ⟨rfl, rfl⟩
theorem styZeroPage (addr : Byte) : Statement (.styZeroPage addr) := ⟨rfl, rfl⟩
theorem styZeroPageX (addr : Byte) : Statement (.styZeroPageX addr) := ⟨rfl, rfl⟩
theorem styAbsolute (addr : Word) : Statement (.styAbsolute addr) := ⟨rfl, rfl⟩
theorem tax : Statement (.tax) := ⟨rfl, rfl⟩
theorem tay : Statement (.tay) := ⟨rfl, rfl⟩
theorem txa : Statement (.txa) := ⟨rfl, rfl⟩
theorem tya : Statement (.tya) := ⟨rfl, rfl⟩
theorem tsx : Statement (.tsx) := ⟨rfl, rfl⟩
theorem txs : Statement (.txs) := ⟨rfl, rfl⟩
theorem adcImmediate (value : Byte) : Statement (.adcImmediate value) := ⟨rfl, rfl⟩
theorem adcZeroPage (addr : Byte) : Statement (.adcZeroPage addr) := ⟨rfl, rfl⟩
theorem adcZeroPageX (addr : Byte) : Statement (.adcZeroPageX addr) := ⟨rfl, rfl⟩
theorem adcAbsolute (addr : Word) : Statement (.adcAbsolute addr) := ⟨rfl, rfl⟩
theorem adcAbsoluteX (addr : Word) : Statement (.adcAbsoluteX addr) := ⟨rfl, rfl⟩
theorem adcAbsoluteY (addr : Word) : Statement (.adcAbsoluteY addr) := ⟨rfl, rfl⟩
theorem adcIndexedIndirect (ptr : Byte) : Statement (.adcIndexedIndirect ptr) := ⟨rfl, rfl⟩
theorem adcIndirectIndexed (ptr : Byte) : Statement (.adcIndirectIndexed ptr) := ⟨rfl, rfl⟩
theorem sbcImmediate (value : Byte) : Statement (.sbcImmediate value) := ⟨rfl, rfl⟩
theorem sbcZeroPage (addr : Byte) : Statement (.sbcZeroPage addr) := ⟨rfl, rfl⟩
theorem sbcZeroPageX (addr : Byte) : Statement (.sbcZeroPageX addr) := ⟨rfl, rfl⟩
theorem sbcAbsolute (addr : Word) : Statement (.sbcAbsolute addr) := ⟨rfl, rfl⟩
theorem sbcAbsoluteX (addr : Word) : Statement (.sbcAbsoluteX addr) := ⟨rfl, rfl⟩
theorem sbcAbsoluteY (addr : Word) : Statement (.sbcAbsoluteY addr) := ⟨rfl, rfl⟩
theorem sbcIndexedIndirect (ptr : Byte) : Statement (.sbcIndexedIndirect ptr) := ⟨rfl, rfl⟩
theorem sbcIndirectIndexed (ptr : Byte) : Statement (.sbcIndirectIndexed ptr) := ⟨rfl, rfl⟩
theorem andImmediate (value : Byte) : Statement (.andImmediate value) := ⟨rfl, rfl⟩
theorem andZeroPage (addr : Byte) : Statement (.andZeroPage addr) := ⟨rfl, rfl⟩
theorem andZeroPageX (addr : Byte) : Statement (.andZeroPageX addr) := ⟨rfl, rfl⟩
theorem andAbsolute (addr : Word) : Statement (.andAbsolute addr) := ⟨rfl, rfl⟩
theorem andAbsoluteX (addr : Word) : Statement (.andAbsoluteX addr) := ⟨rfl, rfl⟩
theorem andAbsoluteY (addr : Word) : Statement (.andAbsoluteY addr) := ⟨rfl, rfl⟩
theorem andIndexedIndirect (ptr : Byte) : Statement (.andIndexedIndirect ptr) := ⟨rfl, rfl⟩
theorem andIndirectIndexed (ptr : Byte) : Statement (.andIndirectIndexed ptr) := ⟨rfl, rfl⟩
theorem oraImmediate (value : Byte) : Statement (.oraImmediate value) := ⟨rfl, rfl⟩
theorem oraZeroPage (addr : Byte) : Statement (.oraZeroPage addr) := ⟨rfl, rfl⟩
theorem oraZeroPageX (addr : Byte) : Statement (.oraZeroPageX addr) := ⟨rfl, rfl⟩
theorem oraAbsolute (addr : Word) : Statement (.oraAbsolute addr) := ⟨rfl, rfl⟩
theorem oraAbsoluteX (addr : Word) : Statement (.oraAbsoluteX addr) := ⟨rfl, rfl⟩
theorem oraAbsoluteY (addr : Word) : Statement (.oraAbsoluteY addr) := ⟨rfl, rfl⟩
theorem oraIndexedIndirect (ptr : Byte) : Statement (.oraIndexedIndirect ptr) := ⟨rfl, rfl⟩
theorem oraIndirectIndexed (ptr : Byte) : Statement (.oraIndirectIndexed ptr) := ⟨rfl, rfl⟩
theorem eorImmediate (value : Byte) : Statement (.eorImmediate value) := ⟨rfl, rfl⟩
theorem eorZeroPage (addr : Byte) : Statement (.eorZeroPage addr) := ⟨rfl, rfl⟩
theorem eorZeroPageX (addr : Byte) : Statement (.eorZeroPageX addr) := ⟨rfl, rfl⟩
theorem eorAbsolute (addr : Word) : Statement (.eorAbsolute addr) := ⟨rfl, rfl⟩
theorem eorAbsoluteX (addr : Word) : Statement (.eorAbsoluteX addr) := ⟨rfl, rfl⟩
theorem eorAbsoluteY (addr : Word) : Statement (.eorAbsoluteY addr) := ⟨rfl, rfl⟩
theorem eorIndexedIndirect (ptr : Byte) : Statement (.eorIndexedIndirect ptr) := ⟨rfl, rfl⟩
theorem eorIndirectIndexed (ptr : Byte) : Statement (.eorIndirectIndexed ptr) := ⟨rfl, rfl⟩
theorem bitZeroPage (addr : Byte) : Statement (.bitZeroPage addr) := ⟨rfl, rfl⟩
theorem bitAbsolute (addr : Word) : Statement (.bitAbsolute addr) := ⟨rfl, rfl⟩
theorem incZeroPage (addr : Byte) : Statement (.incZeroPage addr) := ⟨rfl, rfl⟩
theorem incZeroPageX (addr : Byte) : Statement (.incZeroPageX addr) := ⟨rfl, rfl⟩
theorem incAbsolute (addr : Word) : Statement (.incAbsolute addr) := ⟨rfl, rfl⟩
theorem incAbsoluteX (addr : Word) : Statement (.incAbsoluteX addr) := ⟨rfl, rfl⟩
theorem decZeroPage (addr : Byte) : Statement (.decZeroPage addr) := ⟨rfl, rfl⟩
theorem decZeroPageX (addr : Byte) : Statement (.decZeroPageX addr) := ⟨rfl, rfl⟩
theorem decAbsolute (addr : Word) : Statement (.decAbsolute addr) := ⟨rfl, rfl⟩
theorem decAbsoluteX (addr : Word) : Statement (.decAbsoluteX addr) := ⟨rfl, rfl⟩
theorem inx : Statement (.inx) := ⟨rfl, rfl⟩
theorem dex : Statement (.dex) := ⟨rfl, rfl⟩
theorem iny : Statement (.iny) := ⟨rfl, rfl⟩
theorem dey : Statement (.dey) := ⟨rfl, rfl⟩
theorem cmpImmediate (value : Byte) : Statement (.cmpImmediate value) := ⟨rfl, rfl⟩
theorem cmpZeroPage (addr : Byte) : Statement (.cmpZeroPage addr) := ⟨rfl, rfl⟩
theorem cmpZeroPageX (addr : Byte) : Statement (.cmpZeroPageX addr) := ⟨rfl, rfl⟩
theorem cmpAbsolute (addr : Word) : Statement (.cmpAbsolute addr) := ⟨rfl, rfl⟩
theorem cmpAbsoluteX (addr : Word) : Statement (.cmpAbsoluteX addr) := ⟨rfl, rfl⟩
theorem cmpAbsoluteY (addr : Word) : Statement (.cmpAbsoluteY addr) := ⟨rfl, rfl⟩
theorem cmpIndexedIndirect (ptr : Byte) : Statement (.cmpIndexedIndirect ptr) := ⟨rfl, rfl⟩
theorem cmpIndirectIndexed (ptr : Byte) : Statement (.cmpIndirectIndexed ptr) := ⟨rfl, rfl⟩
theorem cpxImmediate (value : Byte) : Statement (.cpxImmediate value) := ⟨rfl, rfl⟩
theorem cpxZeroPage (addr : Byte) : Statement (.cpxZeroPage addr) := ⟨rfl, rfl⟩
theorem cpxAbsolute (addr : Word) : Statement (.cpxAbsolute addr) := ⟨rfl, rfl⟩
theorem cpyImmediate (value : Byte) : Statement (.cpyImmediate value) := ⟨rfl, rfl⟩
theorem cpyZeroPage (addr : Byte) : Statement (.cpyZeroPage addr) := ⟨rfl, rfl⟩
theorem cpyAbsolute (addr : Word) : Statement (.cpyAbsolute addr) := ⟨rfl, rfl⟩
theorem aslAccumulator : Statement (.aslAccumulator) := ⟨rfl, rfl⟩
theorem aslZeroPage (addr : Byte) : Statement (.aslZeroPage addr) := ⟨rfl, rfl⟩
theorem aslZeroPageX (addr : Byte) : Statement (.aslZeroPageX addr) := ⟨rfl, rfl⟩
theorem aslAbsolute (addr : Word) : Statement (.aslAbsolute addr) := ⟨rfl, rfl⟩
theorem aslAbsoluteX (addr : Word) : Statement (.aslAbsoluteX addr) := ⟨rfl, rfl⟩
theorem lsrAccumulator : Statement (.lsrAccumulator) := ⟨rfl, rfl⟩
theorem lsrZeroPage (addr : Byte) : Statement (.lsrZeroPage addr) := ⟨rfl, rfl⟩
theorem lsrZeroPageX (addr : Byte) : Statement (.lsrZeroPageX addr) := ⟨rfl, rfl⟩
theorem lsrAbsolute (addr : Word) : Statement (.lsrAbsolute addr) := ⟨rfl, rfl⟩
theorem lsrAbsoluteX (addr : Word) : Statement (.lsrAbsoluteX addr) := ⟨rfl, rfl⟩
theorem rolAccumulator : Statement (.rolAccumulator) := ⟨rfl, rfl⟩
theorem rolZeroPage (addr : Byte) : Statement (.rolZeroPage addr) := ⟨rfl, rfl⟩
theorem rolZeroPageX (addr : Byte) : Statement (.rolZeroPageX addr) := ⟨rfl, rfl⟩
theorem rolAbsolute (addr : Word) : Statement (.rolAbsolute addr) := ⟨rfl, rfl⟩
theorem rolAbsoluteX (addr : Word) : Statement (.rolAbsoluteX addr) := ⟨rfl, rfl⟩
theorem rorAccumulator : Statement (.rorAccumulator) := ⟨rfl, rfl⟩
theorem rorZeroPage (addr : Byte) : Statement (.rorZeroPage addr) := ⟨rfl, rfl⟩
theorem rorZeroPageX (addr : Byte) : Statement (.rorZeroPageX addr) := ⟨rfl, rfl⟩
theorem rorAbsolute (addr : Word) : Statement (.rorAbsolute addr) := ⟨rfl, rfl⟩
theorem rorAbsoluteX (addr : Word) : Statement (.rorAbsoluteX addr) := ⟨rfl, rfl⟩
theorem pha : Statement (.pha) := ⟨rfl, rfl⟩
theorem pla : Statement (.pla) := ⟨rfl, rfl⟩
theorem php : Statement (.php) := ⟨rfl, rfl⟩
theorem plp : Statement (.plp) := ⟨rfl, rfl⟩
theorem jmpAbsolute (addr : Word) : Statement (.jmpAbsolute addr) := ⟨rfl, rfl⟩
theorem jmpIndirect (ptr : Word) : Statement (.jmpIndirect ptr) := ⟨rfl, rfl⟩
theorem jsr (addr : Word) : Statement (.jsr addr) := ⟨rfl, rfl⟩
theorem rts : Statement (.rts) := ⟨rfl, rfl⟩
theorem bcc (disp : Byte) : Statement (.bcc disp) := ⟨rfl, rfl⟩
theorem bcs (disp : Byte) : Statement (.bcs disp) := ⟨rfl, rfl⟩
theorem beq (disp : Byte) : Statement (.beq disp) := ⟨rfl, rfl⟩
theorem bne (disp : Byte) : Statement (.bne disp) := ⟨rfl, rfl⟩
theorem bpl (disp : Byte) : Statement (.bpl disp) := ⟨rfl, rfl⟩
theorem bmi (disp : Byte) : Statement (.bmi disp) := ⟨rfl, rfl⟩
theorem bvc (disp : Byte) : Statement (.bvc disp) := ⟨rfl, rfl⟩
theorem bvs (disp : Byte) : Statement (.bvs disp) := ⟨rfl, rfl⟩
theorem brk : Statement (.brk) := ⟨rfl, rfl⟩
theorem rti : Statement (.rti) := ⟨rfl, rfl⟩
theorem clc : Statement (.clc) := ⟨rfl, rfl⟩
theorem sec : Statement (.sec) := ⟨rfl, rfl⟩
theorem cli : Statement (.cli) := ⟨rfl, rfl⟩
theorem sei : Statement (.sei) := ⟨rfl, rfl⟩
theorem cld : Statement (.cld) := ⟨rfl, rfl⟩
theorem sed : Statement (.sed) := ⟨rfl, rfl⟩
theorem clv : Statement (.clv) := ⟨rfl, rfl⟩
theorem nop : Statement (.nop) := ⟨rfl, rfl⟩

end Sys2Proof.Laws.Pairing
end

