-- ==== Sys2Proof/Laws/Step.lean ====
section
/-! SUPPORT. What the fetch and a step can do, said once. -/

namespace Sys2Proof

namespace Machine

@[simp] theorem State.bytesFrom_zero (s : State) (addr : Word) : s.bytesFrom addr 0 = [] := rfl

@[simp] theorem State.bytesFrom_succ (s : State) (addr : Word) (n : Nat) :
    s.bytesFrom addr (n + 1) = s.read addr :: s.bytesFrom (addr + 1) n := rfl

/-- Everything the fetch can answer, and what the three bytes from PC have to do with it: with no row for the opcode byte
it is that error; otherwise it is an instruction, the one those bytes decode to. -/
theorem State.fetch_cases (s : State) :
    (findRow (s.read s.pc) = none ∧ s.fetch = .error (.unknownOpcode (s.read s.pc)) ∧
      decode (s.bytesFrom s.pc 3) = .error (.unknownOpcode (s.read s.pc))) ∨
    ∃ i rest, s.fetch = .ok i ∧ decode (s.bytesFrom s.pc 3) = .ok (i, rest) := by
  cases hrow : findRow (s.read s.pc) with
  | none =>
    refine .inl ⟨rfl, ?_, ?_⟩
    · simp only [State.fetch, fetchLength, hrow, State.bytesFrom, decode]
    · simp only [State.bytesFrom, decode, hrow]
  | some row =>
    have hlen := decodeTable_mode_length row (findRow_some hrow).1
    obtain ⟨opcode, mnemonic, mode, template⟩ := row
    cases template with
    | f1 i =>
      refine .inr ⟨i, _, ?_, by simp only [State.bytesFrom, decode, hrow]; rfl⟩
      simp only [State.fetch, fetchLength, hrow, hlen, State.bytesFrom, decode]
    | f2 build =>
      refine .inr ⟨build (s.read (s.pc + 1)), _, ?_, by simp only [State.bytesFrom, decode, hrow]; rfl⟩
      simp only [State.fetch, fetchLength, hrow, hlen, State.bytesFrom, decode]
    | f3 build =>
      refine .inr ⟨build (wordOfBytes (s.read (s.pc + 1)) (s.read (s.pc + 1 + 1))), _, ?_,
        by simp only [State.bytesFrom, decode, hrow]; rfl⟩
      simp only [State.fetch, fetchLength, hrow, hlen, State.bytesFrom, decode]

theorem step_halted {s : State} {record : FaultRecord} (h : s.run = .halted record) :
    step s = .fault (.unknownOpcode record.byte record.address) := by
  simp [step, h]

theorem step_ready_ok {s : State} {i : Instr} (h : s.run = .ready) (hf : s.fetch = .ok i) : step s = exec i s := by
  simp [step, h, hf]

theorem step_ready_error {s : State} {e : DecodeError} (h : s.run = .ready) (hf : s.fetch = .error e) :
    step s = .next s.haltUnknownOpcode := by
  simp [step, h, hf]

/-- Everything a step that answers a next state can have done: it executed the fetched instruction, or it became Halted
because nothing decodes at PC. -/
theorem step_next_cases {s t : State} (h : step s = .next t) :
    s.run = .ready ∧ ((∃ i, s.fetch = .ok i ∧ exec i s = .next t) ∨ (∃ e, s.fetch = .error e ∧ t = s.haltUnknownOpcode)) := by
  unfold step at h
  split at h
  · cases h
  · refine ⟨‹_›, ?_⟩
    split at h
    · exact .inl ⟨_, ‹_›, h⟩
    · exact .inr ⟨_, ‹_›, by simpa using h.symm⟩

end Machine

end Sys2Proof
end

