-- ==== Sys2Proof/Tests/Slice0.lean ====
section
/-! SUPPORT. The author's own tests. Every expected value is from the spec: the words of the decode table written out from
30_encoding.md R95, and the vectors of 95_test_vectors.md, whose names stand in the docstrings. After them, for every
statement of Obligations.lean that has hypotheses, a witness that meets them. -/

namespace Sys2Proof.Tests

open Sys2Proof.Machine Sys2Proof.Claims

/-- The state after reset, with PC at `pc`, the bytes of an instruction there, and further bytes of memory. -/
def start (pc : Word) (bytes : List Byte) (cells : List (Word × Byte) := []) : State :=
  cells.foldl (fun s cell => s.write cell.1 cell.2) (State.writeBytes { State.reset with pc := pc } pc bytes)

/-- One step answers a next state that passes the check. -/
def answers (s : State) (check : State → Bool) : Bool :=
  match step s with
  | .next t => check t
  | .fault _ | .refused _ => false

/-- Each sequence of bytes decodes to its instruction with nothing left over, and is that instruction's encoding. -/
def wordsDecode (words : List (List Byte × Instr)) : Bool :=
  words.all fun word =>
    (match decode word.1 with
      | .ok (i, []) => decide (i = word.2)
      | _ => false) && encode word.2 == word.1

/-! ## Well-formedness: forms that are no instruction -/

theorem test_illFormed_sta_immediate : Form.wellFormed ⟨.sta, .immediate 0x10⟩ = false := by decide
theorem test_illFormed_ldx_zeroPageX : Form.wellFormed ⟨.ldx, .addressed (.zeroPageX 0x10)⟩ = false := by decide
theorem test_illFormed_stx_absoluteY : Form.wellFormed ⟨.stx, .addressed (.absoluteY 0x1234)⟩ = false := by decide
theorem test_illFormed_asl_absoluteY : Form.wellFormed ⟨.asl, .addressed (.absoluteY 0x1234)⟩ = false := by decide
theorem test_illFormed_inc_accumulator : Form.wellFormed ⟨.inc, .accumulator⟩ = false := by decide
theorem test_illFormed_bit_immediate : Form.wellFormed ⟨.bit, .immediate 0x10⟩ = false := by decide
theorem test_illFormed_jmp_zeroPage : Form.wellFormed ⟨.jmp, .addressed (.zeroPage 0x10)⟩ = false := by decide
theorem test_illFormed_jsr_indirect : Form.wellFormed ⟨.jsr, .indirect 0x1234⟩ = false := by decide
theorem test_illFormed_bcc_absolute : Form.wellFormed ⟨.bcc, .addressed (.absolute 0x1234)⟩ = false := by decide
theorem test_illFormed_brk_immediate : Form.wellFormed ⟨.brk, .immediate 0x10⟩ = false := by decide
theorem test_wellFormed_lda_indirectIndexed : (Instr.ldaIndirectIndexed 0x40).wellFormed = true := by decide

/-! ## Decoding: every row of the table, its operand bytes 0x34 and 0x12 -/

theorem test_decode_opcodes_0 : wordsDecode [
    ([0x00], .brk),
    ([0x01, 0x34], .oraIndexedIndirect 0x34),
    ([0x05, 0x34], .oraZeroPage 0x34),
    ([0x06, 0x34], .aslZeroPage 0x34),
    ([0x08], .php),
    ([0x09, 0x34], .oraImmediate 0x34),
    ([0x0A], .aslAccumulator),
    ([0x0D, 0x34, 0x12], .oraAbsolute 0x1234),
    ([0x0E, 0x34, 0x12], .aslAbsolute 0x1234)] = true := by decide

theorem test_decode_opcodes_1 : wordsDecode [
    ([0x10, 0x34], .bpl 0x34),
    ([0x11, 0x34], .oraIndirectIndexed 0x34),
    ([0x15, 0x34], .oraZeroPageX 0x34),
    ([0x16, 0x34], .aslZeroPageX 0x34),
    ([0x18], .clc),
    ([0x19, 0x34, 0x12], .oraAbsoluteY 0x1234),
    ([0x1D, 0x34, 0x12], .oraAbsoluteX 0x1234),
    ([0x1E, 0x34, 0x12], .aslAbsoluteX 0x1234)] = true := by decide

theorem test_decode_opcodes_2 : wordsDecode [
    ([0x20, 0x34, 0x12], .jsr 0x1234),
    ([0x21, 0x34], .andIndexedIndirect 0x34),
    ([0x24, 0x34], .bitZeroPage 0x34),
    ([0x25, 0x34], .andZeroPage 0x34),
    ([0x26, 0x34], .rolZeroPage 0x34),
    ([0x28], .plp),
    ([0x29, 0x34], .andImmediate 0x34),
    ([0x2A], .rolAccumulator),
    ([0x2C, 0x34, 0x12], .bitAbsolute 0x1234),
    ([0x2D, 0x34, 0x12], .andAbsolute 0x1234),
    ([0x2E, 0x34, 0x12], .rolAbsolute 0x1234)] = true := by decide

theorem test_decode_opcodes_3 : wordsDecode [
    ([0x30, 0x34], .bmi 0x34),
    ([0x31, 0x34], .andIndirectIndexed 0x34),
    ([0x35, 0x34], .andZeroPageX 0x34),
    ([0x36, 0x34], .rolZeroPageX 0x34),
    ([0x38], .sec),
    ([0x39, 0x34, 0x12], .andAbsoluteY 0x1234),
    ([0x3D, 0x34, 0x12], .andAbsoluteX 0x1234),
    ([0x3E, 0x34, 0x12], .rolAbsoluteX 0x1234)] = true := by decide

theorem test_decode_opcodes_4 : wordsDecode [
    ([0x40], .rti),
    ([0x41, 0x34], .eorIndexedIndirect 0x34),
    ([0x45, 0x34], .eorZeroPage 0x34),
    ([0x46, 0x34], .lsrZeroPage 0x34),
    ([0x48], .pha),
    ([0x49, 0x34], .eorImmediate 0x34),
    ([0x4A], .lsrAccumulator),
    ([0x4C, 0x34, 0x12], .jmpAbsolute 0x1234),
    ([0x4D, 0x34, 0x12], .eorAbsolute 0x1234),
    ([0x4E, 0x34, 0x12], .lsrAbsolute 0x1234)] = true := by decide

theorem test_decode_opcodes_5 : wordsDecode [
    ([0x50, 0x34], .bvc 0x34),
    ([0x51, 0x34], .eorIndirectIndexed 0x34),
    ([0x55, 0x34], .eorZeroPageX 0x34),
    ([0x56, 0x34], .lsrZeroPageX 0x34),
    ([0x58], .cli),
    ([0x59, 0x34, 0x12], .eorAbsoluteY 0x1234),
    ([0x5D, 0x34, 0x12], .eorAbsoluteX 0x1234),
    ([0x5E, 0x34, 0x12], .lsrAbsoluteX 0x1234)] = true := by decide

theorem test_decode_opcodes_6 : wordsDecode [
    ([0x60], .rts),
    ([0x61, 0x34], .adcIndexedIndirect 0x34),
    ([0x65, 0x34], .adcZeroPage 0x34),
    ([0x66, 0x34], .rorZeroPage 0x34),
    ([0x68], .pla),
    ([0x69, 0x34], .adcImmediate 0x34),
    ([0x6A], .rorAccumulator),
    ([0x6C, 0x34, 0x12], .jmpIndirect 0x1234),
    ([0x6D, 0x34, 0x12], .adcAbsolute 0x1234),
    ([0x6E, 0x34, 0x12], .rorAbsolute 0x1234)] = true := by decide

theorem test_decode_opcodes_7 : wordsDecode [
    ([0x70, 0x34], .bvs 0x34),
    ([0x71, 0x34], .adcIndirectIndexed 0x34),
    ([0x75, 0x34], .adcZeroPageX 0x34),
    ([0x76, 0x34], .rorZeroPageX 0x34),
    ([0x78], .sei),
    ([0x79, 0x34, 0x12], .adcAbsoluteY 0x1234),
    ([0x7D, 0x34, 0x12], .adcAbsoluteX 0x1234),
    ([0x7E, 0x34, 0x12], .rorAbsoluteX 0x1234)] = true := by decide

theorem test_decode_opcodes_8 : wordsDecode [
    ([0x81, 0x34], .staIndexedIndirect 0x34),
    ([0x84, 0x34], .styZeroPage 0x34),
    ([0x85, 0x34], .staZeroPage 0x34),
    ([0x86, 0x34], .stxZeroPage 0x34),
    ([0x88], .dey),
    ([0x8A], .txa),
    ([0x8C, 0x34, 0x12], .styAbsolute 0x1234),
    ([0x8D, 0x34, 0x12], .staAbsolute 0x1234),
    ([0x8E, 0x34, 0x12], .stxAbsolute 0x1234)] = true := by decide

theorem test_decode_opcodes_9 : wordsDecode [
    ([0x90, 0x34], .bcc 0x34),
    ([0x91, 0x34], .staIndirectIndexed 0x34),
    ([0x94, 0x34], .styZeroPageX 0x34),
    ([0x95, 0x34], .staZeroPageX 0x34),
    ([0x96, 0x34], .stxZeroPageY 0x34),
    ([0x98], .tya),
    ([0x99, 0x34, 0x12], .staAbsoluteY 0x1234),
    ([0x9A], .txs),
    ([0x9D, 0x34, 0x12], .staAbsoluteX 0x1234)] = true := by decide

theorem test_decode_opcodes_A : wordsDecode [
    ([0xA0, 0x34], .ldyImmediate 0x34),
    ([0xA1, 0x34], .ldaIndexedIndirect 0x34),
    ([0xA2, 0x34], .ldxImmediate 0x34),
    ([0xA4, 0x34], .ldyZeroPage 0x34),
    ([0xA5, 0x34], .ldaZeroPage 0x34),
    ([0xA6, 0x34], .ldxZeroPage 0x34),
    ([0xA8], .tay),
    ([0xA9, 0x34], .ldaImmediate 0x34),
    ([0xAA], .tax),
    ([0xAC, 0x34, 0x12], .ldyAbsolute 0x1234),
    ([0xAD, 0x34, 0x12], .ldaAbsolute 0x1234),
    ([0xAE, 0x34, 0x12], .ldxAbsolute 0x1234)] = true := by decide

theorem test_decode_opcodes_B : wordsDecode [
    ([0xB0, 0x34], .bcs 0x34),
    ([0xB1, 0x34], .ldaIndirectIndexed 0x34),
    ([0xB4, 0x34], .ldyZeroPageX 0x34),
    ([0xB5, 0x34], .ldaZeroPageX 0x34),
    ([0xB6, 0x34], .ldxZeroPageY 0x34),
    ([0xB8], .clv),
    ([0xB9, 0x34, 0x12], .ldaAbsoluteY 0x1234),
    ([0xBA], .tsx),
    ([0xBC, 0x34, 0x12], .ldyAbsoluteX 0x1234),
    ([0xBD, 0x34, 0x12], .ldaAbsoluteX 0x1234),
    ([0xBE, 0x34, 0x12], .ldxAbsoluteY 0x1234)] = true := by decide

theorem test_decode_opcodes_C : wordsDecode [
    ([0xC0, 0x34], .cpyImmediate 0x34),
    ([0xC1, 0x34], .cmpIndexedIndirect 0x34),
    ([0xC4, 0x34], .cpyZeroPage 0x34),
    ([0xC5, 0x34], .cmpZeroPage 0x34),
    ([0xC6, 0x34], .decZeroPage 0x34),
    ([0xC8], .iny),
    ([0xC9, 0x34], .cmpImmediate 0x34),
    ([0xCA], .dex),
    ([0xCC, 0x34, 0x12], .cpyAbsolute 0x1234),
    ([0xCD, 0x34, 0x12], .cmpAbsolute 0x1234),
    ([0xCE, 0x34, 0x12], .decAbsolute 0x1234)] = true := by decide

theorem test_decode_opcodes_D : wordsDecode [
    ([0xD0, 0x34], .bne 0x34),
    ([0xD1, 0x34], .cmpIndirectIndexed 0x34),
    ([0xD5, 0x34], .cmpZeroPageX 0x34),
    ([0xD6, 0x34], .decZeroPageX 0x34),
    ([0xD8], .cld),
    ([0xD9, 0x34, 0x12], .cmpAbsoluteY 0x1234),
    ([0xDD, 0x34, 0x12], .cmpAbsoluteX 0x1234),
    ([0xDE, 0x34, 0x12], .decAbsoluteX 0x1234)] = true := by decide

theorem test_decode_opcodes_E : wordsDecode [
    ([0xE0, 0x34], .cpxImmediate 0x34),
    ([0xE1, 0x34], .sbcIndexedIndirect 0x34),
    ([0xE4, 0x34], .cpxZeroPage 0x34),
    ([0xE5, 0x34], .sbcZeroPage 0x34),
    ([0xE6, 0x34], .incZeroPage 0x34),
    ([0xE8], .inx),
    ([0xE9, 0x34], .sbcImmediate 0x34),
    ([0xEA], .nop),
    ([0xEC, 0x34, 0x12], .cpxAbsolute 0x1234),
    ([0xED, 0x34, 0x12], .sbcAbsolute 0x1234),
    ([0xEE, 0x34, 0x12], .incAbsolute 0x1234)] = true := by decide

theorem test_decode_opcodes_F : wordsDecode [
    ([0xF0, 0x34], .beq 0x34),
    ([0xF1, 0x34], .sbcIndirectIndexed 0x34),
    ([0xF5, 0x34], .sbcZeroPageX 0x34),
    ([0xF6, 0x34], .incZeroPageX 0x34),
    ([0xF8], .sed),
    ([0xF9, 0x34, 0x12], .sbcAbsoluteY 0x1234),
    ([0xFD, 0x34, 0x12], .sbcAbsoluteX 0x1234),
    ([0xFE, 0x34, 0x12], .incAbsoluteX 0x1234)] = true := by decide

/-- 60_exceptions.md EX1, EX2: two of the illegal bytes; the operand bytes are not looked at. -/
theorem test_decode_illegal_bytes :
    (decode [0x02, 0xFF, 0xFF], decode [0xFF]) = (.error (.unknownOpcode 0x02), .error (.unknownOpcode 0xFF)) := by decide

theorem test_decode_truncated :
    decode [] = .error .noBytes ∧ decode [0xA9] = .error (.truncated 0xA9) ∧
    decode [0xAD, 0x34] = .error (.truncated 0xAD) := by decide

/-- Bit 0 is the least significant bit of the first byte; bits from `nbits` up are 0. -/
theorem test_decodeTableWord :
    decodeTableWord 24 0x1234BD = some (.ldaAbsoluteX 0x1234) ∧ decodeTableWord 8 0xF9D0 = some (.bne 0x00) ∧
    decodeTableWord 8 0x02 = none := by decide

theorem test_withFetchWord_runs_the_word :
    step (State.reset.withFetchWord 16 0x42A9) = exec (.ldaImmediate 0x42) (State.reset.withFetchWord 16 0x42A9) :=
  rfl

/-! ## Addressing modes (95_test_vectors.md 2.1) -/

/-- AM1 -/
theorem test_lda_zeroPage :
    answers (start 0x0200 [0xA5, 0x10] [(0x0010, 0x77)]) (fun t => t.a == 0x77 && t.pc == 0x0202) := by decide

/-- AM2 -/
theorem test_zeroPageX_wraps_in_page :
    answers { start 0x0200 [0xB5, 0xFF] [(0x0001, 0x66), (0x0101, 0x99)] with x := 0x02 } (fun t => t.a == 0x66) := by
  decide

/-- AM3 -/
theorem test_zeroPageY_wraps_in_page :
    answers { start 0x0200 [0xB6, 0x80] [(0x0010, 0x55)] with y := 0x90 } (fun t => t.x == 0x55 && t.p.pack == 0x20) := by
  decide

/-- AM4 -/
theorem test_absolute :
    answers (start 0x0200 [0xAD, 0x34, 0x12] [(0x1234, 0x80)]) (fun t => t.a == 0x80 && t.p.pack == 0xA0) := by decide

/-- AM5 -/
theorem test_absoluteX_carries_into_the_high_byte :
    answers { start 0x0200 [0xBD, 0xFF, 0x12] [(0x1300, 0x01)] with x := 0x01 } (fun t => t.a == 0x01 && t.pc == 0x0203) := by
  decide

/-- AM6 -/
theorem test_absoluteY_wraps_at_the_end_of_memory :
    answers { start 0x0200 [0xB9, 0xFF, 0xFF] [(0x0001, 0x44)] with y := 0x02 } (fun t => t.a == 0x44) := by decide

/-- AM7 -/
theorem test_indexedIndirect :
    answers { start 0x0200 [0xA1, 0x20] [(0x0025, 0x30), (0x3000, 0xAB)] with x := 0x04 }
      (fun t => t.a == 0xAB && t.p.pack == 0xA0) := by decide

/-- AM8 -/
theorem test_indexedIndirect_pointer_wraps :
    answers { start 0x0200 [0xA1, 0xFE] [(0x00FF, 0x34), (0x0000, 0x12), (0x0100, 0x99), (0x1234, 0xCD)] with x := 0x01 }
      (fun t => t.a == 0xCD) := by decide

/-- AM9 -/
theorem test_indirectIndexed_carries :
    answers { start 0x0200 [0xB1, 0x40] [(0x0040, 0xF8), (0x0041, 0x20), (0x2108, 0xEE)] with y := 0x10 }
      (fun t => t.a == 0xEE) := by decide

/-- AM10 -/
theorem test_indirectIndexed_pointer_and_sum_wrap :
    answers { start 0x0200 [0xB1, 0xFF] [(0x00FF, 0xFF), (0x0000, 0xFF), (0x0100, 0x77)] with y := 0x01 }
      (fun t => t.a == 0xFF) := by decide

/-- AM11 -/
theorem test_instruction_wraps_the_end_of_memory :
    answers (start 0xFFFF [0xAD, 0x00, 0x03] [(0x0300, 0x5A)]) (fun t => t.a == 0x5A && t.pc == 0x0002) := by decide

/-- AM12 -/
theorem test_jmpIndirect_page_wrap :
    answers (start 0x0200 [0x6C, 0xFF, 0x03] [(0x03FF, 0x34), (0x0300, 0x12), (0x0400, 0x56)]) (fun t => t.pc == 0x1234) := by
  decide

/-- AM13 -/
theorem test_jmpIndirect_without_the_bug :
    answers { start 0x0200 [0x6C, 0xFF, 0x03] [(0x03FF, 0x34), (0x0300, 0x12), (0x0400, 0x56)] with
      config := { Config.default with jmpIndirectPageWrapBug := false } } (fun t => t.pc == 0x5634) := by decide

/-- The relative targets of 2.1. -/
theorem test_branch_targets :
    [(0x0FFE, 0x10), (0x0200, 0x00), (0x0200, 0xFE), (0x0200, 0x7F), (0x0200, 0x80), (0x020A, 0xF9), (0xFFFD, 0x05),
      (0x0000, 0x80), (0x00F0, 0x20)].map (fun e => branchTarget e.1 e.2) =
    [0x1010, 0x0202, 0x0200, 0x0281, 0x0182, 0x0205, 0x0004, 0xFF82, 0x0112] := by decide

/-! ## Loads, stores, transfers (2.2) -/

/-- LD1 -/
theorem test_lda_zero :
    answers { start 0x0200 [0xA9, 0x00] with a := 0x55, p := Flags.unpack 0xA0 } (fun t => t.a == 0x00 && t.p.pack == 0x22) := by
  decide

/-- LD3 -/
theorem test_ldx :
    answers { start 0x0200 [0xA2, 0x7F] with p := Flags.unpack 0xA2 } (fun t => t.x == 0x7F && t.p.pack == 0x20) := by decide

/-- LD4 -/
theorem test_ldy : answers (start 0x0200 [0xA0, 0xFF]) (fun t => t.y == 0xFF && t.p.pack == 0xA0) := by decide

/-- ST1 -/
theorem test_sta_indirectIndexed :
    answers { start 0x0200 [0x91, 0x40] [(0x0041, 0x04)] with a := 0x5A, y := 0x03 }
      (fun t => t.read 0x0403 == 0x5A && t.p.pack == 0x20) := by decide

/-- ST5: storing 0 writes no flag. -/
theorem test_sta_writes_no_flag :
    answers { start 0x0200 [0x85, 0x10] [(0x0010, 0x33)] with p := Flags.unpack 0xA0 }
      (fun t => t.read 0x0010 == 0x00 && t.p.pack == 0xA0) := by decide

/-- ST3 -/
theorem test_stx_zeroPageY :
    answers { start 0x0200 [0x96, 0xF0] with x := 0x22, y := 0x20 } (fun t => t.read 0x0010 == 0x22 && t.pc == 0x0202) := by
  decide

/-- 41_load_store_transfer.md R145 -/
theorem test_sty_zeroPageX :
    answers { start 0x0200 [0x94, 0xF0] with x := 0x20, y := 0x33 } (fun t => t.read 0x0010 == 0x33) := by decide

/-- ST4: the operand byte is read before the store replaces it. -/
theorem test_sta_overwrites_its_operand :
    answers { start 0x0200 [0x8D, 0x01, 0x02] with a := 0xEE } (fun t => t.read 0x0201 == 0xEE && t.pc == 0x0203) := by decide

/-- TR1 -/
theorem test_txs_writes_no_flag :
    answers { start 0x0200 [0x9A] with p := Flags.unpack 0xA0 } (fun t => t.sp == 0x00 && t.p.pack == 0xA0) := by decide

/-- TR2 -/
theorem test_tsx : answers { start 0x0200 [0xBA] with sp := 0x00, x := 0x07 } (fun t => t.x == 0x00 && t.p.pack == 0x22) := by
  decide

/-- TR3 -/
theorem test_tax : answers { start 0x0200 [0xAA] with a := 0x80 } (fun t => t.x == 0x80 && t.p.pack == 0xA0) := by decide

/-- TR4 -/
theorem test_tay :
    answers { start 0x0200 [0xA8] with y := 0x07, p := Flags.unpack 0xA0 } (fun t => t.y == 0x00 && t.p.pack == 0x22) := by
  decide

/-- TR5 -/
theorem test_txa :
    answers { start 0x0200 [0x8A] with x := 0x01, p := Flags.unpack 0xA2 } (fun t => t.a == 0x01 && t.p.pack == 0x20) := by
  decide

/-- TR6 -/
theorem test_tya : answers { start 0x0200 [0x98] with y := 0xFF } (fun t => t.a == 0xFF && t.p.pack == 0xA0) := by decide

/-! ## Arithmetic, logic, increments, compares, shifts (2.3 to 2.7) -/

/-- The instruction of 2.3. -/
theorem test_adc :
    answers { start 0x0200 [0x69, 0x50] with a := 0x50 } (fun t => t.a == 0xA0 && t.p.pack == 0xE0) := by decide

/-- The last row of ADC, with D = 1. -/
theorem test_adc_ignores_decimal :
    answers { start 0x0200 [0x69, 0x01] with a := 0x09, p := Flags.unpack 0x28 } (fun t => t.a == 0x0A) := by decide

/-- The instruction of 2.3. -/
theorem test_sbc :
    answers { start 0x0200 [0xE9, 0xB0] with a := 0x50, p := Flags.unpack 0x21 } (fun t => t.a == 0xA0 && t.p.pack == 0xE0) := by
  decide

/-- Six rows of ADC. -/
theorem test_addCore_rows :
    addCore 0x00 0x00 true = ⟨0x01, false, false⟩ ∧ addCore 0x50 0x90 false = ⟨0xE0, false, false⟩ ∧
    addCore 0xD0 0x90 false = ⟨0x60, true, true⟩ ∧ addCore 0xFF 0xFF true = ⟨0xFF, true, false⟩ ∧
    addCore 0x7F 0x00 true = ⟨0x80, false, true⟩ ∧ addCore 0x80 0x80 false = ⟨0x00, true, true⟩ := by decide

/-- Six rows of SBC. -/
theorem test_subCore_rows :
    subCore 0x50 0xF0 true = ⟨0x60, false, false⟩ ∧ subCore 0xD0 0x70 true = ⟨0x60, true, true⟩ ∧
    subCore 0x00 0x00 false = ⟨0xFF, false, false⟩ ∧ subCore 0x80 0x01 true = ⟨0x7F, true, true⟩ ∧
    subCore 0x7F 0xFF true = ⟨0x80, false, true⟩ ∧ subCore 0x05 0x05 true = ⟨0x00, true, false⟩ := by decide

/-- LG1 -/
theorem test_and : answers { start 0x0200 [0x29, 0x0F] with a := 0xF0 } (fun t => t.a == 0x00 && t.p.pack == 0x22) := by decide

/-- LG3 -/
theorem test_ora : answers { start 0x0200 [0x09, 0x80] with a := 0x01 } (fun t => t.a == 0x81 && t.p.pack == 0xA0) := by decide

/-- LG5 -/
theorem test_eor : answers { start 0x0200 [0x49, 0xFF] with a := 0x0F } (fun t => t.a == 0xF0 && t.p.pack == 0xA0) := by decide

/-- LG10: N and V are bits of memory, not of the and. -/
theorem test_bit :
    answers { start 0x0200 [0x24, 0x10] [(0x0010, 0xF0)] with a := 0x0F } (fun t => t.p.pack == 0xE2 && t.a == 0x0F) := by decide

/-- LG9 -/
theorem test_bit_absolute :
    answers { start 0x0200 [0x2C, 0x00, 0x03] [(0x0300, 0x40)] with a := 0x40 } (fun t => t.p.pack == 0x60) := by decide

/-- RM1 -/
theorem test_inc_absoluteX :
    answers { start 0x0200 [0xFE, 0x00, 0x03] [(0x0305, 0xFF)] with x := 0x05, p := Flags.unpack 0x21 }
      (fun t => t.read 0x0305 == 0x00 && t.p.pack == 0x23) := by decide

/-- RM2 -/
theorem test_dec_zeroPage :
    answers { start 0x0200 [0xC6, 0x20] with p := Flags.unpack 0x22 } (fun t => t.read 0x0020 == 0xFF && t.p.pack == 0xA0) := by
  decide

/-- ID1 -/
theorem test_inx_wraps :
    answers { start 0x0200 [0xE8] with x := 0xFF, p := Flags.unpack 0x21 } (fun t => t.x == 0x00 && t.p.pack == 0x23) := by
  decide

/-- ID3 -/
theorem test_dex_wraps : answers (start 0x0200 [0xCA]) (fun t => t.x == 0xFF && t.p.pack == 0xA0) := by decide

/-- ID5 -/
theorem test_iny_wraps : answers { start 0x0200 [0xC8] with y := 0xFF } (fun t => t.y == 0x00 && t.p.pack == 0x22) := by decide

/-- ID6 -/
theorem test_dey_wraps : answers (start 0x0200 [0x88]) (fun t => t.y == 0xFF && t.p.pack == 0xA0) := by decide

/-- V-SRC-2 -/
theorem test_cmp : answers { start 0x0200 [0xC9, 0x80] with a := 0x80 } (fun t => t.p.pack == 0x23 && t.a == 0x80) := by decide

/-- V-SRC-3 -/
theorem test_cpx : answers { start 0x0200 [0xE0, 0x20] with x := 0x10 } (fun t => t.p.pack == 0xA0 && t.x == 0x10) := by decide

/-- The row FF, 00 of 2.6: N = 1 although reg > M. -/
theorem test_cpy : answers { start 0x0200 [0xC0, 0x00] with y := 0xFF } (fun t => t.p.pack == 0xA1 && t.pc == 0x0202) := by decide

/-- Four rows of 2.6. -/
theorem test_compareCore_rows :
    compareCore 0x00 0xFF = ⟨false, false, false⟩ ∧ compareCore 0x80 0x01 = ⟨true, false, false⟩ ∧
    compareCore 0x40 0xC0 = ⟨false, false, true⟩ ∧ compareCore 0x00 0x01 = ⟨false, false, true⟩ := by decide

/-- RM3 -/
theorem test_asl_zeroPageX :
    answers { start 0x0200 [0x16, 0x10] [(0x0011, 0xC1)] with x := 0x01 } (fun t => t.read 0x0011 == 0x82 && t.p.pack == 0xA1) := by
  decide

/-- RM4 -/
theorem test_ror_absolute :
    answers { start 0x0200 [0x6E, 0x00, 0x03] [(0x0300, 0x02)] with p := Flags.unpack 0x21 }
      (fun t => t.read 0x0300 == 0x81 && t.p.pack == 0xA0) := by decide

/-- RM5 -/
theorem test_rol_zeroPage :
    answers { start 0x0200 [0x26, 0x10] [(0x0010, 0x80)] with p := Flags.unpack 0x21 }
      (fun t => t.read 0x0010 == 0x01 && t.p.pack == 0x21) := by decide

/-- RM6 -/
theorem test_lsr_accumulator :
    answers { start 0x0200 [0x4A] with a := 0x01, p := Flags.unpack 0xA0 } (fun t => t.a == 0x00 && t.p.pack == 0x23) := by decide

/-- The row AA, 1 of 2.7. -/
theorem test_shiftCore_rows :
    aslCore 0xAA = ⟨0x54, true⟩ ∧ lsrCore 0xAA = ⟨0x55, false⟩ ∧ rolCore 0xAA true = ⟨0x55, true⟩ ∧
    rorCore 0xAA true = ⟨0xD5, false⟩ := by decide

/-! ## Stack and control flow (2.8, 2.9) -/

/-- SK1 -/
theorem test_pha_wraps :
    answers { start 0x0200 [0x48] with a := 0x99, sp := 0x00 } (fun t => t.read 0x0100 == 0x99 && t.sp == 0xFF) := by decide

/-- SK2 -/
theorem test_pla :
    answers (start 0x0200 [0x68] [(0x0100, 0x80)]) (fun t => t.a == 0x80 && t.sp == 0x00 && t.p.pack == 0xA0) := by decide

/-- SK3: bit 4 of the pushed byte is 1 and the stored B stays 0. -/
theorem test_php :
    answers { start 0x0200 [0x08] with p := Flags.unpack 0xA5 } (fun t => t.read 0x01FF == 0xB5 && t.p.pack == 0xA5) := by decide

/-- SK4 -/
theorem test_plp_clears :
    answers { start 0x0200 [0x28] with sp := 0xFE, p := Flags.unpack 0xFF } (fun t => t.p.pack == 0x20) := by decide

/-- SK5 -/
theorem test_plp_sets :
    answers { start 0x0200 [0x28] [(0x01FF, 0xFF)] with sp := 0xFE } (fun t => t.p.pack == 0xFF && t.sp == 0xFF) := by decide

/-- CF0 -/
theorem test_jmp : answers (start 0x0200 [0x4C, 0x34, 0x12]) (fun t => t.pc == 0x1234) := by decide

/-- CF1: the pair straddles the wrap of SP. -/
theorem test_jsr_wraps :
    answers { start 0x1000 [0x20, 0x00, 0x30] with sp := 0x00 }
      (fun t => t.read 0x0100 == 0x10 && t.read 0x01FF == 0x02 && t.sp == 0xFE && t.pc == 0x3000) := by decide

/-- CF2: the operand is read before the pushes replace it. -/
theorem test_jsr_overwrites_its_operand :
    answers (start 0x01FD [0x20, 0x00, 0x30]) (fun t => t.pc == 0x3000 && t.read 0x01FF == 0x01 && t.read 0x01FE == 0xFF) := by
  decide

/-- CF3 -/
theorem test_rts_wraps :
    answers { start 0x0200 [0x60] [(0x01FE, 0xFF), (0x01FF, 0xFF)] with sp := 0xFD } (fun t => t.pc == 0x0000 && t.sp == 0xFF) := by
  decide

/-- CF5 -/
theorem test_brk :
    answers { start 0x0400 [0x00] [(0xFFFF, 0x05)] with p := Flags.unpack 0x21 }
      (fun t => t.read 0x01FF == 0x04 && t.read 0x01FE == 0x02 && t.read 0x01FD == 0x31 && t.sp == 0xFC && t.p.pack == 0x25 &&
        t.pc == 0x0500) := by decide

/-- CF6: the stack wraps, and D is not cleared. -/
theorem test_brk_wraps :
    answers { start 0x0400 [0x00] [(0xFFFE, 0x34), (0xFFFF, 0x12)] with p := Flags.unpack 0xEC, sp := 0x01 }
      (fun t => t.read 0x0101 == 0x04 && t.read 0x0100 == 0x02 && t.read 0x01FF == 0xFC && t.p.pack == 0xEC && t.pc == 0x1234) := by
  decide

/-- CF7 -/
theorem test_rti :
    answers { start 0x0500 [0x40] [(0x01FD, 0x31), (0x01FE, 0x02), (0x01FF, 0x04)] with sp := 0xFC, p := Flags.unpack 0x25 }
      (fun t => t.p.pack == 0x31 && t.pc == 0x0402 && t.sp == 0xFF) := by decide

/-- CF8: bit 5 of the pulled byte is 0 and U stays 1. -/
theorem test_rti_keeps_u :
    answers { start 0x0500 [0x40] [(0x01FD, 0xC1), (0x01FE, 0xFF), (0x01FF, 0xFF)] with sp := 0xFC }
      (fun t => t.p.pack == 0xE1 && t.pc == 0xFFFF) := by decide

/-- CF9 and CF10: not taken, and taken backward. -/
theorem test_bne :
    answers { start 0x020A [0xD0, 0xF9] with p := Flags.unpack 0x22 } (fun t => t.pc == 0x020C) ∧
    answers (start 0x020A [0xD0, 0xF9]) (fun t => t.pc == 0x0205) := by decide

/-- The branch truth table: PC after each branch with displacement 0x10 at 0x0200, with P = 0x20 and with P = 0xE3. -/
theorem test_branch_truth_table :
    [(0x90, 0x0212, 0x0202), (0xB0, 0x0202, 0x0212), (0xF0, 0x0202, 0x0212), (0xD0, 0x0212, 0x0202), (0x10, 0x0212, 0x0202),
      (0x30, 0x0202, 0x0212), (0x50, 0x0212, 0x0202), (0x70, 0x0202, 0x0212)].all (fun e : Byte × Word × Word =>
        answers (start 0x0200 [e.1, 0x10]) (fun t => t.pc == e.2.1) &&
        answers { start 0x0200 [e.1, 0x10] with p := Flags.unpack 0xE3 } (fun t => t.pc == e.2.2)) := by decide

/-- 2.10: the status byte after each flag instruction and NOP, and PC. -/
theorem test_flag_instructions :
    [(0x18, 0xFF, 0xFE), (0x38, 0x20, 0x21), (0x58, 0xFF, 0xFB), (0x78, 0x20, 0x24), (0xD8, 0xFF, 0xF7), (0xF8, 0x20, 0x28),
      (0xB8, 0xFF, 0xBF), (0xEA, 0xFF, 0xFF), (0xEA, 0x20, 0x20)].all (fun e : Byte × Byte × Byte =>
        answers { start 0x0200 [e.1] with p := Flags.unpack e.2.1 } (fun t => t.p.pack == e.2.2 && t.pc == 0x0201)) := by decide

/-! ## Exceptions, reset, the host (2.11) -/

/-- EX1: nothing but the run state changes. -/
theorem test_unknown_opcode :
    let s := { start 0x0200 [0x02, 0xFF, 0xFF] with a := 0x01, p := Flags.unpack 0x65 }
    s.stepCall = (.unknownOpcode 0x02 0x0200, { s with run := .halted ⟨0x02, 0x0200⟩ }) := by decide

/-- EX1b -/
theorem test_halted_core_reports_again :
    let s := { start 0x0200 [0x02] with run := .halted ⟨0x02, 0x0200⟩ }
    step s = .fault (.unknownOpcode 0x02 0x0200) ∧ s.stepCall = (.unknownOpcode 0x02 0x0200, s) := ⟨rfl, by decide⟩

/-- EX1c -/
theorem test_core_reset_leaves_halted :
    let t := State.coreReset { start 0x0200 [0x02] with run := .halted ⟨0x02, 0x0200⟩ }
    t.run = .ready ∧ t.pc = 0x0000 ∧ t.sp = 0xFF := by decide

/-- EX2 -/
theorem test_unknown_opcode_at_the_end_of_memory :
    (start 0xFFFF [0xFF]).stepCall.1 = .unknownOpcode 0xFF 0xFFFF := by decide

/-- RS1 -/
theorem test_core_reset :
    let t := State.coreReset { start 0x1234 [] [(0xFFFD, 0x80)] with a := 0x05, x := 0x06, y := 0x07, sp := 0x03 }
    (t.a, t.x, t.y, t.sp, t.pc) = (0x00, 0x00, 0x00, 0xFF, 0x8000) := by decide

/-- RS2: the first step after the literal reset(). -/
theorem test_first_step_after_reset :
    answers State.reset (fun t => t.read 0x01FE == 0x02 && t.read 0x01FD == 0x30 && t.sp == 0xFC && t.p.pack == 0x24 &&
      t.pc == 0x0000) := by decide

/-- 20_memory.md R66; 92_eei_decisions.md D30 -/
theorem test_load_past_the_end_is_refused :
    State.reset.load 0xFFFE [0x01, 0x02, 0x03] = .refused .loadPastEnd ∧
    (match State.reset.load 0xFFFE [0x01, 0x02] with
      | .next t => t.read16 0xFFFE == 0x0201
      | _ => false) = true := ⟨rfl, by decide⟩

/-- P1 of Part 3: PC is the entry address after the boot. -/
theorem test_boot :
    (match State.reset.boot [(0x0200, [0xA2, 0x0A]), (0xFFFC, [0x00, 0x02])] with
      | .next t => t.pc == 0x0200 && t.read 0x0201 == 0x0A
      | _ => false) = true := by decide

/-- 10_state.md R29, R30: the packed byte of a snapshot holds the stored B. -/
theorem test_snapshot_status :
    (State.snapshot { State.reset with p := Flags.unpack 0x30 }).p = 0x30 := by decide

/-- A write of what an unlisted address reads as takes the entry out. -/
theorem test_memory_is_canonical :
    ((State.reset.write 0x0010 0x55).write 0x0010 0x00).mem = [] ∧
    ((State.reset.write 0x0020 0x01).write 0x0010 0x02).mem = [(0x0010, 0x02), (0x0020, 0x01)] := by decide

/-! ## Witnesses: the hypotheses of each statement are met -/

theorem witness_EncodeOfDecodeIsTheBytes :
    decode [0xBD, 0x34, 0x12, 0xFF] = .ok (.ldaAbsoluteX 0x1234, [0xFF]) := rfl

theorem witness_UnknownOpcodeExactlyOnTheListedBytes : 0x02 ∈ illegalOpcodes ∧ 0xFF ∈ illegalOpcodes ∧ 0xEA ∉ illegalOpcodes := by
  decide

theorem witness_StepRunsTheDecodedInstruction :
    (start 0xFFFF [0xAD, 0x00, 0x03]).run = .ready ∧
    decode ((start 0xFFFF [0xAD, 0x00, 0x03]).bytesFrom 0xFFFF 3) = .ok (.ldaAbsolute 0x0300, []) := ⟨rfl, rfl⟩

theorem witness_StepAtAnUnknownOpcodeOnlyHalts :
    (start 0x0200 [0x02]).run = .ready ∧ (start 0x0200 [0x02]).read 0x0200 ∈ illegalOpcodes := by decide

theorem witness_UnknownOpcodeIsReportedAndRecorded :
    (start 0x0200 [0xFF]).run = .ready ∧ findRow ((start 0x0200 [0xFF]).read 0x0200) = none := ⟨rfl, rfl⟩

theorem witness_HaltedCoreReportsAgainAndStays :
    State.run { State.reset with run := .halted ⟨0x02, 0x0200⟩ } = .halted ⟨0x02, 0x0200⟩ := rfl

/-- Both clauses: a Ready state at an unknown byte, and one at an instruction. -/
theorem witness_EveryReadyStepCompletesOrReports :
    ((start 0x0200 [0x02]).run = .ready ∧ findRow 0x02 = none) ∧
    ((start 0x0200 [0xEA]).run = .ready ∧ ∃ t, exec .nop (start 0x0200 [0xEA]) = .next t) := ⟨⟨rfl, rfl⟩, rfl, _, rfl⟩

theorem witness_InvariantKeptByEveryStep :
    State.reset.Inv ∧ ∃ t, step State.reset = .next t := ⟨by unfold State.Inv; decide, _, rfl⟩

theorem witness_HaltedRecordNamesTheByteAtPc :
    step (start 0x0200 [0x02]) = .next { start 0x0200 [0x02] with run := .halted ⟨0x02, 0x0200⟩ } := rfl

/-- A three-byte instruction across the end of memory. -/
theorem witness_StoredBytesAreFetchedAndRun :
    (start 0xFFFE []).run = .ready ∧ (encode (.jsr 0x3000)).length = 3 := ⟨rfl, rfl⟩

theorem witness_ClearedVectorAndBrkLoopForever :
    State.reset.run = .ready ∧ State.reset.pc = 0x0000 ∧ State.reset.read 0x0000 = 0x00 ∧ State.reset.read 0xFFFE = 0x00 ∧
    State.reset.read 0xFFFF = 0x00 := ⟨rfl, rfl, rfl, rfl, rfl⟩

/-- The premise of OneByteWritten's frame, at the last location of the page. -/
theorem witness_PushWritesThenDecrements : (0x0200 : Word) ≠ stackAddr 0xFF := by decide

/-- The two locations at the wrap, 0x0100 and 0x01FF, and an address beside them. -/
theorem witness_PushedValuesArePulledBack : (0x0200 : Word) ≠ stackAddr 0x00 ∧ (0x0200 : Word) ≠ stackAddr (0x00 - 1) := by decide

theorem witness_AddCoreIsTheExactSumNarrowed :
    255 < (0xFF : Byte).toNat + (0x01 : Byte).toNat + false.toNat ∧
    127 < (0x7F : Byte).toInt + (0x00 : Byte).toInt + true.toNat ∧
    (0x80 : Byte).toInt + (0xFF : Byte).toInt + false.toNat < -128 := by decide

/-- The branches by mode: one that is, and one that is not. -/
theorem witness_BranchTargetCountsFromTheEnd :
    (Instr.bne 0xF9).operand.mode = .relative ∧ Mnemonic.bne ∈ branches ∧ Mnemonic.jmp ∉ branches := by decide

theorem witness_LoadsCopyTheOperand :
    (Instr.ldaImmediate 0x00).mnemonic = .lda ∧ (Instr.ldxZeroPageY 0x80).mnemonic = .ldx ∧
    (Instr.ldyAbsoluteX 0x1234).mnemonic = .ldy := ⟨rfl, rfl, rfl⟩

theorem witness_StoresWriteOneByte :
    ((Instr.staIndirectIndexed 0x40).mnemonic = .sta ∧ 0x00 = State.reset.a) ∧
    ((Instr.stxZeroPageY 0xF0).mnemonic = .stx ∧ 0x00 = State.reset.x) ∧
    ((Instr.styAbsolute 0x1234).mnemonic = .sty ∧ 0x00 = State.reset.y) := by decide

theorem witness_AdcAndSbcAreBinary :
    (Instr.adcImmediate 0x50).mnemonic = .adc ∧ (Instr.sbcAbsoluteX 0x1234).mnemonic = .sbc := ⟨rfl, rfl⟩

theorem witness_LogicCombinesBitwise :
    ∀ op : Byte → Byte → Byte,
      (op = (· &&& ·) → (Instr.andImmediate 0x0F).mnemonic = .and ∧ op = (· &&& ·)) ∧
      (op = (· ||| ·) → (Instr.oraZeroPage 0x10).mnemonic = .ora ∧ op = (· ||| ·)) ∧
      (op = (· ^^^ ·) → (Instr.eorAbsolute 0x1234).mnemonic = .eor ∧ op = (· ^^^ ·)) :=
  fun _ => ⟨fun h => ⟨rfl, h⟩, fun h => ⟨rfl, h⟩, fun h => ⟨rfl, h⟩⟩

theorem witness_BitTestsTheOperand : (Instr.bitZeroPage 0x10).mnemonic = .bit ∧ (Instr.bitAbsolute 0x0300).mnemonic = .bit :=
  ⟨rfl, rfl⟩

theorem witness_IncAndDecUpdateOneByte :
    ((Instr.incAbsoluteX 0x0300).mnemonic = .inc ∧ (1 : Byte) = 1) ∧ ((Instr.decZeroPage 0x20).mnemonic = .dec ∧ (255 : Byte) = 255) :=
  ⟨⟨rfl, rfl⟩, rfl, rfl⟩

theorem witness_ComparesSetCZNOnly :
    ((Instr.cmpImmediate 0x80).mnemonic = .cmp ∧ 0x00 = State.reset.a) ∧
    ((Instr.cpxZeroPage 0x20).mnemonic = .cpx ∧ 0x00 = State.reset.x) ∧
    ((Instr.cpyAbsolute 0x0300).mnemonic = .cpy ∧ 0x00 = State.reset.y) := by decide

theorem witness_ShiftsReplaceTheirOperand :
    ((Instr.aslAccumulator).mnemonic = .asl ∧ aslCore = aslCore) ∧ ((Instr.lsrZeroPage 0x10).mnemonic = .lsr ∧ lsrCore = lsrCore) ∧
    ((Instr.rolZeroPageX 0x10).mnemonic = .rol ∧ (rolCore · State.reset.p.c) = (rolCore · State.reset.p.c)) ∧
    ((Instr.rorAbsolute 0x0300).mnemonic = .ror ∧ (rorCore · State.reset.p.c) = (rorCore · State.reset.p.c)) :=
  ⟨⟨rfl, rfl⟩, ⟨rfl, rfl⟩, ⟨rfl, rfl⟩, rfl, rfl⟩

theorem witness_PlaAndPlpPullOneByte : 0x80 = (start 0x0200 [0x68] [(0x0100, 0x80)]).read (stackAddr (0xFF + 1)) := by decide

/-- Each of the eight conditions, at one status where it holds and one where it does not. -/
theorem witness_BranchesTestOneFlag :
    branches.map (branchTaken (Flags.unpack 0x20)) =
      [some true, some false, some false, some true, some true, some false, some true, some false] ∧
    branches.map (branchTaken (Flags.unpack 0xE3)) =
      [some false, some true, some true, some false, some false, some true, some false, some true] := by decide

theorem witness_RtiRestoresFlagsAndPc :
    0x31 = (start 0x0500 [0x40] [(0x01FD, 0x31)]).read (stackAddr (0xFC + 1)) := by decide

/-- STA meets every clause but the one on what it stores to, which it meets at every other address. -/
theorem witness_WhatNoRuleNamesKeepsItsValue :
    (∃ t, exec (.staZeroPage 0x10) State.reset = .next t) ∧ (Instr.staZeroPage 0x10).mnemonic = .sta ∧
    (0x0011 : Word) ∉ storedAddresses (.staZeroPage 0x10) State.reset ∧
    (0x0010 : Word) ∈ storedAddresses (.staZeroPage 0x10) State.reset ∧ State.reset.p.u = true := by
  refine ⟨⟨_, rfl⟩, ?_⟩
  decide

theorem witness_PcAdvancesByTheLengthUnlessTransferred :
    (∃ t, exec (.ldaAbsolute 0x0300) (start 0xFFFE []) = .next t) ∧
    (∃ t, exec (.bcs 0x10) State.reset = .next t) ∧ branchTaken State.reset.p .bcs = some false :=
  ⟨⟨_, rfl⟩, ⟨_, rfl⟩, rfl⟩

theorem witness_StoredBreakFlagIsUnobservable : ∃ t, step (start 0x0200 [0x08]) = .next t := ⟨_, rfl⟩

theorem witness_InterruptAndDecimalFlagsInfluenceNothing :
    (Instr.adcImmediate 0x01).mnemonic ∉ [Mnemonic.php, .brk] ∧ ∃ t, exec (.adcImmediate 0x01) State.reset = .next t :=
  ⟨by decide, _, rfl⟩

theorem witness_TrapReturnRestoresTheFlags : State.reset.p.u = true := rfl

theorem witness_PhpPlpAndPhaPlaRoundTrip : (start 0x0200 [0x08, 0x28]).p.u = true := rfl

theorem witness_CoreResetGivesTheResetValues : State.run { State.reset with run := .halted ⟨0x02, 0x0200⟩ } ≠ .ready := by decide

theorem witness_LiteralResetClearsMemory : (start 0x0200 [0x02]).config = Config.default := rfl

/-- Both clauses at their boundary: the last sequence that fits, and the first that does not. -/
theorem witness_LoadWritesItsBytesOrRefuses :
    (0xFFFE : Word).toNat + [(0x00 : Byte), 0x02].length ≤ 65536 ∧
    65536 < (0xFFFE : Word).toNat + [(0x00 : Byte), 0x02, 0x00].length ∧ (0xFFFD : Word) ≠ 0xFFFE + BitVec.ofNat 16 0 := by decide

end Sys2Proof.Tests
end

section
/-! PROOFS of the family 20_memory.md: the stack's push and pull (R60, R61) and the zero-page word read (R57). The
obligations speak of addresses as natural numbers reduced mod 256; the first three lemmas translate the
model's byte steps and stack locations into that form. -/

namespace Sys2Proof.Machine

/-- Counting a byte up wraps mod 256. -/
theorem byte_add_one_toNat (b : Byte) : (b + 1).toNat = (b.toNat + 1) % 256 := by
  rw [BitVec.toNat_add]
  rfl

/-- Counting a byte down wraps mod 256. -/
theorem byte_sub_one_toNat (b : Byte) : (b - 1).toNat = (b.toNat + 255) % 256 := by
  rw [BitVec.toNat_sub, Nat.add_comm]
  rfl

/-- The stack location as the spec writes it, `0x0100 + SP` (10_state.md R23). -/
theorem stackAddr_eq_ofNat (sp : Byte) : stackAddr sp = BitVec.ofNat 16 (0x0100 + sp.toNat) := by
  rw [← stackAddr_toNat, BitVec.ofNat_toNat, BitVec.setWidth_eq]

/-- A push writes the one byte at the stack location (20_memory.md R60). -/
theorem push_oneByteWritten (s : State) (v : Byte) : Claims.OneByteWritten s (s.push v) (stackAddr s.sp) v := by
  constructor
  · rw [State.read_push, if_pos rfl]
  · intro addr hne
    rw [State.read_push, if_neg hne]

/-- Settles O15: what a push writes is `State.read_push`, at the location `stackAddr_eq_ofNat` spells out. -/
theorem pushWritesThenDecrements : Obligations.PushWritesThenDecrements := by
  intro s v
  refine ⟨?written, byte_sub_one_toNat s.sp, rfl⟩
  case written =>
    rw [← stackAddr_eq_ofNat]
    exact push_oneByteWritten s v

/-- Settles O16: the byte pulled is at the incremented SP's location, and a pull sets SP alone. -/
theorem pullIncrementsThenReads : Obligations.PullIncrementsThenReads := by
  intro s
  refine ⟨byte_add_one_toNat s.sp, ?pulled, rfl⟩
  case pulled => rw [State.pulled, stackAddr_eq_ofNat, byte_add_one_toNat]

/-- Settles O18: the second address is the incremented byte widened, so it wraps before it is widened. -/
theorem zeroPagePointerWrapsInThePage : Obligations.ZeroPagePointerWrapsInThePage := by
  intro s zp
  rw [State.read16zp, wordOfBytes_toNat, ← byte_add_one_toNat, BitVec.ofNat_toNat, BitVec.ofNat_toNat]

end Sys2Proof.Machine
end

section
/-! PROOFS of the family 30_encoding.md: the two indexed modes that need no pointer (R88, R94) and the branches' relative
mode (R90). The obligations speak of addresses as exact integers reduced mod 256 or mod 65536; the lemmas about `zext16`
and `sext16` say which integer a widened byte is. That the branches alone are relative is read off the matrix
`Mnemonic.modes`, from which every instruction takes its mode. -/

namespace Sys2Proof.Machine

/-- Zero-extension keeps the unsigned value (00_scope.md R13). -/
theorem zext16_toNat (b : Byte) : (zext16 b).toNat = b.toNat :=
  BitVec.toNat_setWidth_of_le (by decide)

/-- Sign-extension keeps the signed value, mod 65536 (00_scope.md R13). -/
theorem sext16_toNat (b : Byte) : ((sext16 b).toNat : Int) = b.toInt % 65536 := by
  rw [sext16, BitVec.signExtend, BitVec.toNat_ofInt, Int.toNat_of_nonneg (Int.emod_nonneg _ (by decide))]
  rfl

/-- A byte indexed before it is widened wraps within the zero page (30_encoding.md R88). -/
theorem zext16_add_toNat (addr index : Byte) : (zext16 (addr + index)).toNat = (addr.toNat + index.toNat) % 256 := by
  rw [zext16_toNat, BitVec.toNat_add]

/-- A word indexed by a zero-extended byte carries into its high byte and wraps mod 65536 (30_encoding.md R94). -/
theorem add_zext16_toNat (addr : Word) (index : Byte) :
    (addr + zext16 index).toNat = (addr.toNat + index.toNat) % 65536 := by
  rw [BitVec.toNat_add, zext16_toNat]

/-- The target in exact integers: each of the two 16-bit sums wraps, which one reduction at the end says as well. -/
theorem branchTarget_toNat (pc0 : Word) (disp : Byte) :
    ((branchTarget pc0 disp).toNat : Int) = ((pc0.toNat : Int) + 2 + disp.toInt) % 65536 := by
  have hsum : (branchTarget pc0 disp).toNat = ((pc0.toNat + 2) % 65536 + (sext16 disp).toNat) % 65536 := by
    rw [branchTarget, BitVec.toNat_add, BitVec.toNat_add]
    rfl
  have hdisp := sext16_toNat disp
  omega

/-- Every instruction's pairing of mnemonic and mode is one of the matrix of 30_encoding.md R95. -/
theorem mode_mem_modes (i : Instr) : i.operand.mode ∈ i.mnemonic.modes := by
  have hwf : i.wellFormed = true := by cases i <;> rfl
  exact of_decide_eq_true hwf

/-- Only a branch's row of the matrix has the relative mode. -/
theorem mem_branches_of_relative_mem_modes (m : Mnemonic) : .relative ∈ m.modes → m ∈ Claims.branches := by
  cases m <;> decide

/-- A branch's row of the matrix has no other mode. -/
theorem modes_eq_relative_of_mem_branches : ∀ m ∈ Claims.branches, m.modes = [.relative] := by decide

theorem mode_eq_relative_iff (i : Instr) : i.operand.mode = .relative ↔ i.mnemonic ∈ Claims.branches := by
  have hmem := mode_mem_modes i
  constructor
  · intro hrel
    rw [hrel] at hmem
    exact mem_branches_of_relative_mem_modes i.mnemonic hmem
  · intro hbranch
    rw [modes_eq_relative_of_mem_branches i.mnemonic hbranch] at hmem
    exact List.mem_singleton.mp hmem

/-- Settles O30: the target by `branchTarget_toNat`, the relative instructions by `mode_eq_relative_iff`. -/
theorem branchTargetCountsFromTheEnd : Obligations.BranchTargetCountsFromTheEnd :=
  ⟨branchTarget_toNat, mode_eq_relative_iff, rfl⟩

/-- Settles O27: both modes widen the byte sum. -/
theorem zeroPageIndexStaysInThePage : Obligations.ZeroPageIndexStaysInThePage :=
  fun s addr => ⟨zext16_add_toNat addr s.x, zext16_add_toNat addr s.y, rfl, rfl⟩

/-- Settles O28: both modes widen the index before the sum. -/
theorem absoluteIndexCarriesAndWraps : Obligations.AbsoluteIndexCarriesAndWraps :=
  fun s addr => ⟨add_zext16_toNat addr s.x, add_zext16_toNat addr s.y, rfl, rfl⟩

end Sys2Proof.Machine
end

section
/-! PROOFS of the family 40_step_and_flag_primitives.md: a step completes an instruction or makes no update (R111), and
the primitives SetZN (R120) and AddCore (R121). The two flag primitives say "bit 7" in three ways (a bit, a mask with
0x80, a bound on the value); the first lemmas translate each into the top bit, which decides a byte's signed value. -/

namespace Sys2Proof.Machine

/-- Bit 7 of a byte is set from 128 on. -/
theorem byte_bit7_eq (v : Byte) : v[7] = decide (128 ≤ v.toNat) :=
  BitVec.msb_eq_decide v

/-- Masking a byte with 0x80 tests its top bit. -/
theorem byte_and_0x80_ne_zero (v : Byte) : ((v &&& 0x80) != 0) = v.msb := by
  have hmask : v &&& 0x80 = if v.msb then 0x80 else 0 := BitVec.and_twoPow v 7
  rw [hmask]
  cases v.msb <;> rfl

/-- SetZN writes Z and N alone, from the value (R120). -/
theorem setZN_eq_withZN (p : Flags) (v : Byte) : p.setZN v = Claims.withZN p v := by
  rw [Flags.setZN, Claims.withZN, byte_bit7_eq]
  rfl

/-- Z and N are never both 1: bit 7 of zero is 0. -/
theorem setZN_not_both (p : Flags) (v : Byte) : ((p.setZN v).z && (p.setZN v).n) = false := by
  by_cases hv : v = 0
  · subst hv; rfl
  · rw [Flags.setZN_z, beq_eq_false_iff_ne.mpr hv, Bool.false_and]

/-- Settles O20: Z and N are the value's by `setZN_eq_withZN`, never both by `setZN_not_both`. -/
theorem setZNIsZeroAndBitSeven : Obligations.SetZNIsZeroAndBitSeven :=
  fun p v => ⟨setZN_eq_withZN p v, setZN_not_both p v⟩

/-- AddCore's result is the exact sum mod 256 (R121). -/
theorem addCore_r_toNat (a m : Byte) (c : Bool) :
    (addCore a m c).r.toNat = (a.toNat + m.toNat + c.toNat) % 256 :=
  BitVec.toNat_ofNat ..

/-- AddCore carries exactly when the sum does not fit in a byte (R121). -/
theorem addCore_cOut_iff (a m : Byte) (c : Bool) :
    (addCore a m c).cOut = true ↔ 255 < a.toNat + m.toNat + c.toNat :=
  decide_eq_true_iff

/-- A byte's signed value is its unsigned value below 128, and 256 less from there on (00_scope.md R13). -/
theorem byte_toInt (v : Byte) : v.toInt = if v.toNat < 128 then (v.toNat : Int) else v.toNat - 256 := by
  rw [BitVec.toInt_eq_toNat_cond]
  split <;> split <;> omega

/-- The sign-bit formula in words: the operands have one sign and the result the other (R121). -/
theorem addCore_vOut_iff_signs (a m : Byte) (c : Bool) :
    (addCore a m c).vOut = true ↔
      (128 ≤ a.toNat ↔ 128 ≤ m.toNat) ∧ ¬(128 ≤ a.toNat ↔ 128 ≤ (addCore a m c).r.toNat) := by
  have hformula : (addCore a m c).vOut = (~~~(a ^^^ m) &&& (a ^^^ (addCore a m c).r)).msb := byte_and_0x80_ne_zero _
  rw [hformula, BitVec.msb_and, BitVec.msb_not, BitVec.msb_xor, BitVec.msb_xor]
  simp [BitVec.msb_eq_decide]

/-- The sign-bit formula says when the signed sum does not fit in a byte. With the operands' signs fixed, their signed
sum is the unsigned one less 0, 256 or 512, so whether the narrowed sum has the other sign is linear arithmetic (R121). -/
theorem addCore_vOut_iff (a m : Byte) (c : Bool) :
    (addCore a m c).vOut = true ↔ a.toInt + m.toInt + c.toNat < -128 ∨ 127 < a.toInt + m.toInt + c.toNat := by
  have hr := addCore_r_toNat a m c
  have hc := c.toNat_le
  rw [addCore_vOut_iff_signs, byte_toInt a, byte_toInt m]
  rcases Nat.lt_or_ge a.toNat 128 with ha | ha <;> rcases Nat.lt_or_ge m.toNat 128 with hm | hm
  case inl.inl => rw [if_pos ha, if_pos hm]; omega
  case inl.inr => rw [if_pos ha, if_neg hm.not_gt]; omega
  case inr.inl => rw [if_neg ha.not_gt, if_pos hm]; omega
  case inr.inr => rw [if_neg ha.not_gt, if_neg hm.not_gt]; omega

/-- Settles O21: the result and the carry are the sum's, the overflow's two readings meet in the signs of the operands
and the result. -/
theorem addCoreIsTheExactSumNarrowed : Obligations.AddCoreIsTheExactSumNarrowed :=
  fun a m c => ⟨addCore_r_toNat a m c, addCore_cOut_iff a m c, addCore_vOut_iff a m c, rfl⟩

/-- A branch answers a next state and keeps the run state, taken or not. -/
theorem branch_completes (taken : Bool) (disp : Byte) (s : State) :
    ∃ t, branch taken disp s = .next t ∧ t.run = s.run := by
  refine ⟨_, rfl, ?_⟩
  cases taken <;> rfl

/-- Every instruction answers a next state and keeps the run state: no handler faults, refuses or halts (R111). Only the
branches choose between two next states. -/
theorem exec_completes (i : Instr) (s : State) : ∃ t, exec i s = .next t ∧ t.run = s.run := by
  cases i with
  | bcc disp | bcs disp | beq disp | bne disp | bpl disp | bmi disp | bvc disp | bvs disp =>
    exact branch_completes _ disp s
  | _ => exact ⟨_, rfl, rfl⟩

/-- `step()` returns the run state's result with the next state a step answers. -/
theorem stepCall_of_next {s t : State} (h : step s = .next t) : s.stepCall = (t.run.result, t) := by
  rw [State.stepCall, h]

/-- Settles O9: at a byte with no row the step only halts; at any other, `exec_completes`. -/
theorem everyReadyStepCompletesOrReports : Obligations.EveryReadyStepCompletesOrReports := by
  constructor
  · intro i s
    obtain ⟨t, hexec, -⟩ := exec_completes i s
    exact ⟨t, hexec⟩
  · intro s hready
    rcases s.fetch_cases with ⟨hrow, hfetch, -⟩ | ⟨i, -, hfetch, -⟩
    · exact .inl ⟨hrow, stepCall_of_next (step_ready_error hready hfetch)⟩
    · obtain ⟨t, hexec, hrun⟩ := exec_completes i s
      rw [hready] at hrun
      have hcall := stepCall_of_next ((step_ready_ok hready hfetch).trans hexec)
      rw [hrun] at hcall
      exact .inr ⟨i, t, hexec, hrun, hcall⟩

end Sys2Proof.Machine
end

section
/-! PROOFS of the family 41_load_store_transfer.md: the loads (R140 to R142) and the transfers (R146 to R151). All of them
but TXS are one operation: advance PC, then set A, X or Y with Z and N. The first lemmas give the whole state it leaves,
one for each register; `exec_load` says once what every form of a load does. -/

namespace Sys2Proof.Machine

/-- The whole state after the advance of PC and `A <- v; SetZN(A)`. -/
theorem State.setA_advance (s : State) (len : Nat) (v : Byte) :
    (s.advance len).setA v = { s with a := v, p := Claims.withZN s.p v, pc := s.pc + BitVec.ofNat 16 len } := by
  rw [← setZN_eq_withZN]
  rfl

/-- The whole state after the advance of PC and `X <- v; SetZN(X)`. -/
theorem State.setX_advance (s : State) (len : Nat) (v : Byte) :
    (s.advance len).setX v = { s with x := v, p := Claims.withZN s.p v, pc := s.pc + BitVec.ofNat 16 len } := by
  rw [← setZN_eq_withZN]
  rfl

/-- The whole state after the advance of PC and `Y <- v; SetZN(Y)`. -/
theorem State.setY_advance (s : State) (len : Nat) (v : Byte) :
    (s.advance len).setY v = { s with y := v, p := Claims.withZN s.p v, pc := s.pc + BitVec.ofNat 16 len } := by
  rw [← setZN_eq_withZN]
  rfl

/-- The register update of each load (R140 to R142). -/
def loadUpdate : Mnemonic → Option (State → Byte → State)
  | .lda => some State.setA
  | .ldx => some State.setX
  | .ldy => some State.setY
  | _ => none

/-- Every form of a load has an operand value M, and applies its mnemonic's update to M after the advance of PC: the 18
forms differ in the operand alone. -/
theorem exec_load {i : Instr} {update : State → Byte → State} (h : loadUpdate i.mnemonic = some update) (s : State) :
    ∃ m, Claims.operandValue s i.operand = some m ∧ exec i s = .next (update (s.advance i.length) m) := by
  cases i with
  | ldaImmediate | ldaZeroPage | ldaZeroPageX | ldaAbsolute | ldaAbsoluteX | ldaAbsoluteY | ldaIndexedIndirect
  | ldaIndirectIndexed | ldxImmediate | ldxZeroPage | ldxZeroPageY | ldxAbsolute | ldxAbsoluteY | ldyImmediate
  | ldyZeroPage | ldyZeroPageX | ldyAbsolute | ldyAbsoluteX =>
    cases h
    exact ⟨_, rfl, rfl⟩
  | _ => cases h

/-- Settles O32: each mnemonic's forms are `exec_load` with that mnemonic's update, whose whole state is known. -/
theorem loadsCopyTheOperand : Obligations.LoadsCopyTheOperand := by
  intro i s
  refine ⟨fun hlda => ?lda, fun hldx => ?ldx, fun hldy => ?ldy⟩
  case lda =>
    obtain ⟨m, hvalue, hexec⟩ := exec_load (congrArg loadUpdate hlda) s
    exact ⟨m, hvalue, hexec.trans (congrArg _ (s.setA_advance i.length m))⟩
  case ldx =>
    obtain ⟨m, hvalue, hexec⟩ := exec_load (congrArg loadUpdate hldx) s
    exact ⟨m, hvalue, hexec.trans (congrArg _ (s.setX_advance i.length m))⟩
  case ldy =>
    obtain ⟨m, hvalue, hexec⟩ := exec_load (congrArg loadUpdate hldy) s
    exact ⟨m, hvalue, hexec.trans (congrArg _ (s.setY_advance i.length m))⟩

/-- Settles O34: a transfer is the update of its destination with the source's value; TXS moves SP and PC alone. -/
theorem transfersCopyARegister : Obligations.TransfersCopyARegister := by
  intro s
  refine ⟨?tax, ?tay, ?txa, ?tya, ?tsx, ?txs⟩
  case tax => exact congrArg _ (s.setX_advance 1 s.a)
  case tay => exact congrArg _ (s.setY_advance 1 s.a)
  case txa => exact congrArg _ (s.setA_advance 1 s.x)
  case tya => exact congrArg _ (s.setA_advance 1 s.y)
  case tsx => exact congrArg _ (s.setX_advance 1 s.sp)
  case txs => rfl

end Sys2Proof.Machine
end

section
/-! PROOFS of the family 42_arithmetic.md: ADC and SBC (R160, R161). Both are one operation with AddCore or SubCore in it:
advance PC, then set A, C, V, Z and N. `exec_arithmetic` says once what every form of either does. -/

namespace Sys2Proof.Machine

/-- The whole state after the advance of PC and the update of A, C, V, Z and N. -/
theorem State.setAdd_advance (s : State) (len : Nat) (o : AddResult) :
    (s.advance len).setAdd o =
      { s with a := o.r, p := Claims.withZN { s.p with c := o.cOut, v := o.vOut } o.r,
               pc := s.pc + BitVec.ofNat 16 len } := by
  rw [← setZN_eq_withZN]
  rfl

/-- The primitive each arithmetic mnemonic applies to A, M and C (R160, R161). -/
def arithmeticCore : Mnemonic → Option (Byte → Byte → Bool → AddResult)
  | .adc => some addCore
  | .sbc => some subCore
  | _ => none

/-- Every form of ADC and SBC has an operand value M, and after the advance of PC sets A and the flags from its
mnemonic's primitive: the 16 forms differ in the operand and the primitive alone, and none looks at D. -/
theorem exec_arithmetic {i : Instr} {core : Byte → Byte → Bool → AddResult} (h : arithmeticCore i.mnemonic = some core)
    (s : State) :
    ∃ m, Claims.operandValue s i.operand = some m ∧
      exec i s = .next ((s.advance i.length).setAdd (core s.a m s.p.c)) := by
  cases i with
  | adcImmediate | adcZeroPage | adcZeroPageX | adcAbsolute | adcAbsoluteX | adcAbsoluteY | adcIndexedIndirect
  | adcIndirectIndexed | sbcImmediate | sbcZeroPage | sbcZeroPageX | sbcAbsolute | sbcAbsoluteX | sbcAbsoluteY
  | sbcIndexedIndirect | sbcIndirectIndexed =>
    cases h
    exact ⟨_, rfl, rfl⟩
  | _ => cases h

/-- Settles O35: each mnemonic's forms are `exec_arithmetic` with that mnemonic's primitive, whose whole state is known. -/
theorem adcAndSbcAreBinary : Obligations.AdcAndSbcAreBinary := by
  intro i s
  refine ⟨fun hadc => ?adc, fun hsbc => ?sbc⟩
  case adc =>
    obtain ⟨m, hvalue, hexec⟩ := exec_arithmetic (congrArg arithmeticCore hadc) s
    exact ⟨m, _, hvalue, rfl, hexec.trans (congrArg _ (s.setAdd_advance i.length _))⟩
  case sbc =>
    obtain ⟨m, hvalue, hexec⟩ := exec_arithmetic (congrArg arithmeticCore hsbc) s
    exact ⟨m, _, hvalue, rfl, hexec.trans (congrArg _ (s.setAdd_advance i.length _))⟩

end Sys2Proof.Machine
end

section
/-! PROOFS of the family 43_logic.md: AND, ORA and EOR (R170 to R172). They are one operation with a bitwise function in
it: advance PC, then set A with Z and N. `exec_logic` says once what every form of the three does. -/

namespace Sys2Proof.Machine

/-- The bitwise function each logic mnemonic applies to A and M (R170 to R172). -/
def logicOp : Mnemonic → Option (Byte → Byte → Byte)
  | .and => some (· &&& ·)
  | .ora => some (· ||| ·)
  | .eor => some (· ^^^ ·)
  | _ => none

/-- Every form of AND, ORA and EOR has an operand value M, and after the advance of PC sets A from its mnemonic's
function: the 24 forms differ in the operand and the function alone. -/
theorem exec_logic {i : Instr} {op : Byte → Byte → Byte} (h : logicOp i.mnemonic = some op) (s : State) :
    ∃ m, Claims.operandValue s i.operand = some m ∧ exec i s = .next ((s.advance i.length).setA (op s.a m)) := by
  cases i with
  | andImmediate | andZeroPage | andZeroPageX | andAbsolute | andAbsoluteX | andAbsoluteY | andIndexedIndirect
  | andIndirectIndexed | oraImmediate | oraZeroPage | oraZeroPageX | oraAbsolute | oraAbsoluteX | oraAbsoluteY
  | oraIndexedIndirect | oraIndirectIndexed | eorImmediate | eorZeroPage | eorZeroPageX | eorAbsolute | eorAbsoluteX
  | eorAbsoluteY | eorIndexedIndirect | eorIndirectIndexed =>
    cases h
    exact ⟨_, rfl, rfl⟩
  | _ => cases h

/-- Settles O36: the mnemonic fixes the function in each of the three cases, and `exec_logic` with it leaves the state
that `State.setA_advance` writes out. -/
theorem logicCombinesBitwise : Obligations.LogicCombinesBitwise := by
  intro i s op hpair
  have hop : logicOp i.mnemonic = some op := by
    rcases hpair with ⟨hand, rfl⟩ | ⟨hora, rfl⟩ | ⟨heor, rfl⟩
    · exact congrArg logicOp hand
    · exact congrArg logicOp hora
    · exact congrArg logicOp heor
  obtain ⟨m, hvalue, hexec⟩ := exec_logic hop s
  exact ⟨m, hvalue, hexec.trans (congrArg _ (s.setA_advance i.length (op s.a m)))⟩

end Sys2Proof.Machine
end

section
/-! PROOFS of the family 44_incdec.md: INC and DEC (R180, R181) and the index steps (R182 to R185). INC and DEC are one
operation with a step of a byte in it, `updateByte`. `exec_byteStep` says once that every form of either is that
operation; what it writes and what state it leaves are said of `updateByte` itself. -/

namespace Sys2Proof.Machine

/-- A store writes the one byte at its address (20_memory.md R54). -/
theorem write_oneByteWritten (s : State) (addr : Word) (v : Byte) : Claims.OneByteWritten s (s.write addr v) addr v :=
  ⟨s.read_write_same addr v, fun _ hne => s.read_write_other v hne⟩

/-- `updateByte` completes: it writes the one byte at the effective address, moves PC, and sets Z and N. The address is
resolved before PC moves. -/
theorem updateByte_completes (f : Byte → Byte) (mode : AddrMode) (s : State) :
    ∃ t, updateByte f mode s = .next t ∧
      Claims.OneByteWritten s t (s.ea mode) (f (s.read (s.ea mode))) ∧
      t = { s with mem := t.mem, p := Claims.withZN s.p (f (s.read (s.ea mode))),
                   pc := s.pc + BitVec.ofNat 16 mode.mode.length } := by
  refine ⟨_, rfl, write_oneByteWritten s _ _, ?state⟩
  case state =>
    rw [← setZN_eq_withZN]
    exact updateByte_next rfl rfl

/-- The step of the byte each of INC and DEC applies (R180, R181). -/
def byteStep : Mnemonic → Option (Byte → Byte)
  | .inc => some (· + 1)
  | .dec => some (· - 1)
  | _ => none

/-- Every form of INC and DEC has an address operand, and is `updateByte` there with its mnemonic's step. -/
theorem exec_byteStep {i : Instr} {f : Byte → Byte} (h : byteStep i.mnemonic = some f) (s : State) :
    ∃ mode, i.operand = .addressed mode ∧ exec i s = updateByte f mode s := by
  cases i with
  | incZeroPage | incZeroPageX | incAbsolute | incAbsoluteX | decZeroPage | decZeroPageX | decAbsolute
  | decAbsoluteX =>
    cases h
    exact ⟨_, rfl, rfl⟩
  | _ => cases h

/-- Settles O38: the mnemonic fixes a step that adds delta mod 256, and `updateByte_completes` with it leaves the state
asked for; the length of the operand's mode is the instruction's. -/
theorem incAndDecUpdateOneByte : Obligations.IncAndDecUpdateOneByte := by
  intro i s delta hpair
  have hstep : ∃ f, byteStep i.mnemonic = some f ∧ ∀ v, (f v).toNat = (v.toNat + delta.toNat) % 256 := by
    rcases hpair with ⟨hinc, rfl⟩ | ⟨hdec, rfl⟩
    · exact ⟨_, congrArg byteStep hinc, byte_add_one_toNat⟩
    · exact ⟨_, congrArg byteStep hdec, byte_sub_one_toNat⟩
  obtain ⟨f, hf, hvalue⟩ := hstep
  obtain ⟨mode, hoperand, hexec⟩ := exec_byteStep hf s
  obtain ⟨t, hnext, hwritten, hstate⟩ := updateByte_completes f mode s
  have hpc : Claims.pcNext i s = s.pc + BitVec.ofNat 16 mode.mode.length := by
    rw [Claims.pcNext, Instr.length, hoperand]
    rfl
  refine ⟨mode, _, t, hoperand, hvalue _, hexec.trans hnext, hwritten, ?state⟩
  case state => rw [hpc]; exact hstate

/-- Settles O39: an index step is the update of its register with the stepped value, after the advance of PC. -/
theorem indexStepsWrap : Obligations.IndexStepsWrap := by
  intro s
  refine ⟨?inx, ?dex, ?iny, ?dey⟩
  case inx => exact congrArg _ (s.setX_advance 1 (s.x + 1))
  case dex => exact congrArg _ (s.setX_advance 1 (s.x - 1))
  case iny => exact congrArg _ (s.setY_advance 1 (s.y + 1))
  case dey => exact congrArg _ (s.setY_advance 1 (s.y - 1))

end Sys2Proof.Machine
end

section
/-! PROOFS of the family 45_compare.md: CMP, CPX and CPY (R190 to R192). All three are one operation of the model,
`compare`, whose whole next state is the law `compare_next`. `exec_compare` says once that every form of the three is
that operation, with its mnemonic's register and its own operand. -/

namespace Sys2Proof.Machine

/-- A source operand has an operand value, the one its handlers read (40_step_and_flag_primitives.md R114). -/
theorem Source.operandValue_eq (src : Source) (s : State) : Claims.operandValue s src.operand = some (src.value s) := by
  cases src <;> rfl

/-- The register each compare sets against M (R190 to R192). -/
def comparedRegister (s : State) : Mnemonic → Option Byte
  | .cmp => some s.a
  | .cpx => some s.x
  | .cpy => some s.y
  | _ => none

/-- Every form of CMP, CPX and CPY is `compare` of its mnemonic's register with its operand: the 14 forms differ in the
register and the operand alone. -/
theorem exec_compare {i : Instr} {s : State} {reg : Byte} (h : comparedRegister s i.mnemonic = some reg) :
    ∃ src : Source, exec i s = compare reg src s ∧ i.operand = src.operand := by
  cases i with
  | cmpImmediate | cmpZeroPage | cmpZeroPageX | cmpAbsolute | cmpAbsoluteX | cmpAbsoluteY | cmpIndexedIndirect
  | cmpIndirectIndexed | cpxImmediate | cpxZeroPage | cpxAbsolute | cpyImmediate | cpyZeroPage | cpyAbsolute =>
    cases h
    exact ⟨_, rfl, rfl⟩
  | _ => cases h

/-- Settles O40: the mnemonic fixes the register in each of the three cases, and `compare` of it leaves the state of
`compare_next`; the operand's length is the instruction's. -/
theorem comparesSetCZNOnly : Obligations.ComparesSetCZNOnly := by
  intro i s reg hpair
  have hreg : comparedRegister s i.mnemonic = some reg := by
    rcases hpair with ⟨hcmp, rfl⟩ | ⟨hcpx, rfl⟩ | ⟨hcpy, rfl⟩
    · exact congrArg (comparedRegister s) hcmp
    · exact congrArg (comparedRegister s) hcpx
    · exact congrArg (comparedRegister s) hcpy
  obtain ⟨src, hexec, hoperand⟩ := exec_compare hreg
  refine ⟨src.value s, ?value, ?state⟩
  case value => rw [hoperand, src.operandValue_eq]
  case state =>
    obtain ⟨t, hnext⟩ : ∃ t, compare reg src s = .next t := ⟨_, rfl⟩
    rw [hexec, hnext, compare_next rfl hnext, Claims.pcNext, Instr.length, hoperand, Source.length]

end Sys2Proof.Machine
end

section
/-! PROOFS of the family 46_shift_rotate.md: ASL, LSR, ROL and ROR (R200 to R203). All four are one operation of the
model, `shiftPlace`, whose next state is the law `shiftPlace_next`. `exec_shift` says once that every form of the four is
that operation, with its mnemonic's shift function and its own operand. -/

namespace Sys2Proof.Machine

/-- The whole state after a shift of the accumulator. -/
theorem shiftPlace_accumulator {core : Byte → ShiftResult} {s : State} {o : ShiftResult} (ho : o = core s.a) :
    shiftPlace core .accumulator s =
      .next { s with a := o.r, p := Claims.withZN { s.p with c := o.cOut } o.r,
                     pc := s.pc + BitVec.ofNat 16 (Place.length .accumulator) } := by
  obtain ⟨t, hnext⟩ : ∃ t, shiftPlace core .accumulator s = .next t := ⟨_, rfl⟩
  rw [hnext, ← setZN_eq_withZN]
  exact congrArg _ (shiftPlace_next ho hnext)

/-- The whole state after a shift of memory. The address is resolved before PC moves. -/
theorem shiftPlace_addressed {core : Byte → ShiftResult} {mode : AddrMode} {s : State} {o : ShiftResult}
    (ho : o = core (s.read (s.ea mode))) :
    shiftPlace core (.addressed mode) s =
      .next { s.write (s.ea mode) o.r with
                p := Claims.withZN { s.p with c := o.cOut } o.r,
                pc := s.pc + BitVec.ofNat 16 (Place.length (.addressed mode)) } := by
  obtain ⟨t, hnext⟩ : ∃ t, shiftPlace core (.addressed mode) s = .next t := ⟨_, rfl⟩
  rw [hnext, ← setZN_eq_withZN]
  exact congrArg _ (shiftPlace_next ho hnext)

/-- The shift function each mnemonic applies to its operand, with the carry from before the step (R200 to R203). -/
def shiftCore (c : Bool) : Mnemonic → Option (Byte → ShiftResult)
  | .asl => some aslCore
  | .lsr => some lsrCore
  | .rol => some (rolCore · c)
  | .ror => some (rorCore · c)
  | _ => none

/-- Every form of the four is `shiftPlace` of its operand with its mnemonic's function: the 20 forms differ in the
operand and the function alone. -/
theorem exec_shift {i : Instr} {s : State} {core : Byte → ShiftResult} (h : shiftCore s.p.c i.mnemonic = some core) :
    ∃ place : Place, exec i s = shiftPlace core place s ∧ i.operand = place.operand := by
  cases i with
  | aslAccumulator | lsrAccumulator | rolAccumulator | rorAccumulator =>
    cases h
    exact ⟨.accumulator, rfl, rfl⟩
  | aslZeroPage | aslZeroPageX | aslAbsolute | aslAbsoluteX | lsrZeroPage | lsrZeroPageX | lsrAbsolute | lsrAbsoluteX
  | rolZeroPage | rolZeroPageX | rolAbsolute | rolAbsoluteX | rorZeroPage | rorZeroPageX | rorAbsolute | rorAbsoluteX =>
    cases h
    exact ⟨.addressed _, rfl, rfl⟩
  | _ => cases h

/-- Settles O41: the mnemonic fixes the shift function in each of the four cases; `shiftPlace` with it leaves the state
asked for, in accumulator mode by `shiftPlace_accumulator` and in a memory mode by `shiftPlace_addressed`. -/
theorem shiftsReplaceTheirOperand : Obligations.ShiftsReplaceTheirOperand := by
  intro i s core hpair
  have hcore : shiftCore s.p.c i.mnemonic = some core := by
    rcases hpair with ⟨hasl, rfl⟩ | ⟨hlsr, rfl⟩ | ⟨hrol, rfl⟩ | ⟨hror, rfl⟩
    · exact congrArg (shiftCore s.p.c) hasl
    · exact congrArg (shiftCore s.p.c) hlsr
    · exact congrArg (shiftCore s.p.c) hrol
    · exact congrArg (shiftCore s.p.c) hror
  obtain ⟨place, hexec, hoperand⟩ := exec_shift hcore
  have hpc : Claims.pcNext i s = s.pc + BitVec.ofNat 16 place.length := by
    rw [Claims.pcNext, Instr.length, hoperand, Place.length]
  rw [hexec, hpc, hoperand]
  cases place with
  | accumulator =>
    exact ⟨s.a, _, _, rfl, rfl, shiftPlace_accumulator rfl, .inl ⟨rfl, rfl⟩⟩
  | addressed mode =>
    exact ⟨_, _, _, rfl, rfl, shiftPlace_addressed rfl, .inr ⟨mode, rfl, write_oneByteWritten s _ _, rfl⟩⟩

end Sys2Proof.Machine
end

section
/-! PROOFS of the family 47_stack.md: PHA and PHP (R210, R212), PLA and PLP (R211, R213), and each push followed by its
pull. A push and a pull after the advance of PC are each one operation with the byte in it; that PLP undoes PHP rests
besides on where the packed status holds each flag, which `Flags.pack_getElem` says once. -/

namespace Sys2Proof.Machine

/-- The flags in the order of their bits in the status byte (10_state.md R27). -/
def Flags.bit (p : Flags) : Fin 8 → Bool := ![p.c, p.z, p.i, p.d, p.b, p.u, p.v, p.n]

/-- The weighted sum of the flags is the byte that has them as its bits. -/
theorem Flags.pack_eq_ofFnLE (p : Flags) : p.pack = BitVec.ofFnLE p.bit := by
  have hbits : p.n.toNat * 128 + p.v.toNat * 64 + p.u.toNat * 32 + p.b.toNat * 16 + p.d.toNat * 8 + p.i.toNat * 4
      + p.z.toNat * 2 + p.c.toNat = Nat.ofBits p.bit := by
    simp [Nat.ofBits_succ, Flags.bit]
    omega
  rw [Flags.pack, hbits, ← BitVec.toNat_ofFnLE, BitVec.ofNat_toNat, BitVec.setWidth_eq]

/-- Bit `k` of the packed status is the flag of that place. -/
theorem Flags.pack_getElem (p : Flags) (k : Nat) (hk : k < 8) : p.pack[k] = p.bit ⟨k, hk⟩ := by
  rw [Flags.pack_eq_ofFnLE, BitVec.getElem_ofFnLE]

/-- With U at 1, unpacking the pushed status gives back every flag but B, now 1: bit 4 of 0x30 reaches B, and
unpacking sets U whatever bit 5 is. -/
theorem Flags.unpack_pushed {p : Flags} (hu : p.u = true) : Flags.unpack p.pushed = { p with b := true } := by
  simp [Flags.unpack, Flags.pushed, Flags.pack_getElem, Flags.bit, hu]

/-- A pull after a push returns the byte pushed: the pull counts SP up to where the push wrote (R60, R61). -/
theorem State.pulled_push (s : State) (v : Byte) : (s.push v).pulled = v := by
  rw [State.pulled, State.push_sp, BitVec.sub_add_cancel, State.read_push, if_pos rfl]

/-- A push after the advance of PC writes its one byte, moves SP and PC, and keeps all else. -/
theorem push_advance_completes (s : State) (v : Byte) :
    Claims.OneByteWritten s ((s.advance 1).push v) (stackAddr s.sp) v ∧
      (s.advance 1).push v = { s with mem := ((s.advance 1).push v).mem, sp := s.sp - 1, pc := s.pc + 1 } :=
  ⟨push_oneByteWritten (s.advance 1) v, rfl⟩

/-- PLA's whole next state: A, Z and N from the pulled byte (R211). -/
theorem exec_pla (s : State) :
    exec .pla s =
      .next { s with a := s.pulled, p := Claims.withZN s.p s.pulled, sp := s.sp + 1, pc := s.pc + 1 } :=
  congrArg _ (s.pull.setA_advance 1 s.pulled)

/-- PLP's whole next state: the flags unpacked from the pulled byte (R213). -/
theorem exec_plp (s : State) :
    exec .plp s = .next { s with p := Flags.unpack s.pulled, sp := s.sp + 1, pc := s.pc + 1 } := rfl

/-- Settles O43: the byte asked for is the pulled one, and each next state is its instruction's equation. -/
theorem plaAndPlpPullOneByte : Obligations.PlaAndPlpPullOneByte := by
  rintro s v rfl
  exact ⟨exec_pla s, exec_plp s⟩

/-- Settles O42: each is a push after the advance of PC, of A and of the status with bits 4 and 5 set. -/
theorem phaAndPhpPushOneByte : Obligations.PhaAndPhpPushOneByte := by
  intro s
  exact ⟨⟨_, rfl, push_advance_completes s s.a⟩, ⟨_, rfl, push_advance_completes s s.p.pushed⟩⟩

/-- Settles O57: the pull finds the byte pushed (`State.pulled_push`) and counts SP back; PLP unpacks the pushed status by
`Flags.unpack_pushed`. -/
theorem phpPlpAndPhaPlaRoundTrip : Obligations.PhpPlpAndPhaPlaRoundTrip := by
  intro s hu
  have hsp : s.sp - 1 + 1 = s.sp := BitVec.sub_add_cancel s.sp 1
  have hpc : s.pc + 1 + 1 = s.pc + 2 := BitVec.add_assoc s.pc 1 1
  refine ⟨⟨(s.advance 1).push s.p.pushed, rfl, ?plp⟩, ⟨(s.advance 1).push s.a, rfl, ?pla⟩⟩
  case plp =>
    rw [exec_plp, State.pulled_push, Flags.unpack_pushed hu, ← hpc, State.push_sp, State.advance_sp, hsp]
    rfl
  case pla =>
    rw [exec_pla, State.pulled_push, ← hpc, State.push_sp, State.advance_sp, hsp]
    rfl

end Sys2Proof.Machine
end

section
/-! PROOFS of the family 48_control_flow.md: JMP (R220), JSR (R221) and RTS (R222). A call is a 16-bit push before the
jump, a return a 16-bit pull before it. The laws count SP one byte at a time, the obligations in one step of 2;
`sp_sub_one_sub_one` and `sp_add_one_add_one` say the two agree. -/

namespace Sys2Proof.Machine

/-- SP after two pushes. -/
theorem sp_sub_one_sub_one (sp : Byte) : sp - 1 - 1 = sp - 2 := sub_sub sp 1 1

/-- SP after two pulls. -/
theorem sp_add_one_add_one (sp : Byte) : sp + 1 + 1 = sp + 2 := add_assoc sp 1 1

/-- The two locations a 16-bit push writes differ, SP = 0x00 included. -/
theorem stackAddr_ne_stackAddr_sub_one (sp : Byte) : stackAddr sp ≠ stackAddr (sp - 1) := by
  rw [Ne, stackAddr_inj]
  bv_omega

/-- A 16-bit push leaves the high byte at the location of SP: the push of the low byte does not reach it (R62). -/
theorem State.read_push16_high (s : State) (w : Word) : (s.push16 w).read (stackAddr s.sp) = highByte w := by
  rw [State.read_push16, if_neg (stackAddr_ne_stackAddr_sub_one s.sp), if_pos rfl]

/-- A 16-bit push leaves the low byte one location below (R62). -/
theorem State.read_push16_low (s : State) (w : Word) : (s.push16 w).read (stackAddr (s.sp - 1)) = lowByte w := by
  rw [State.read_push16, if_pos rfl]

/-- A 16-bit push leaves every other byte. -/
theorem State.read_push16_other (s : State) (w : Word) {addr : Word} (hhigh : addr ≠ stackAddr s.sp)
    (hlow : addr ≠ stackAddr (s.sp - 1)) : (s.push16 w).read addr = s.read addr := by
  rw [State.read_push16, if_neg hlow, if_neg hhigh]

/-- JSR's whole next state (R221). -/
theorem exec_jsr (target : Word) (s : State) :
    exec (.jsr target) s =
      .next { s with mem := (s.push16 (s.pc + 2)).mem, sp := s.sp - 2, pc := target } := by
  rw [← sp_sub_one_sub_one]
  rfl

/-- RTS's whole next state (R222). -/
theorem exec_rts (s : State) : exec .rts s = .next { s with sp := s.sp + 2, pc := s.pulled16 + 1 } := by
  rw [← sp_add_one_add_one]
  rfl

/-- The word a 16-bit pull returns, at the two locations above SP (R63). -/
theorem State.pulled16_eq (s : State) :
    s.pulled16 = wordOfBytes (s.read (stackAddr (s.sp + 1))) (s.read (stackAddr (s.sp + 2))) := by
  rw [← sp_add_one_add_one]
  rfl

/-- Settles O45: JSR's memory is that of the 16-bit push, whose two bytes and frame the `State.read_push16` lemmas give. -/
theorem jsrPushesTheAddressOfItsLastByte : Obligations.JsrPushesTheAddressOfItsLastByte := by
  intro s target
  refine ⟨_, exec_jsr target s, ?high, ?low, ?frame, rfl⟩
  case high => exact s.read_push16_high (s.pc + 2)
  case low => exact s.read_push16_low (s.pc + 2)
  case frame => exact fun addr hhigh hlow => s.read_push16_other (s.pc + 2) hhigh hlow

/-- Settles O44: both forms are a jump, which sets PC alone. -/
theorem jmpOnlyReplacesPc : Obligations.JmpOnlyReplacesPc := by
  intro s w
  exact ⟨rfl, rfl⟩

/-- Settles O46: RTS's next state, with the pulled word spelled out by its two bytes. -/
theorem rtsReturnsPastThePulledAddress : Obligations.RtsReturnsPastThePulledAddress := by
  intro s
  rw [exec_rts, State.pulled16_eq]

end Sys2Proof.Machine
end

section
/-! PROOFS about the decode table and its encoder (30_encoding.md R80 to R82, R95, R97): the round trips, the bytes with
no row, and words written out. `findRow_opcode` says that every instruction comes from a row of the table,
`decodeTable_encodes` what a row's instructions encode to. -/

namespace Sys2Proof

/-- The instructions a row's format gives, one for each value of its operand bytes (R81). -/
inductive Template.Builds : Template → Instr → Prop
  | f1 (i : Instr) : Builds (.f1 i) i
  | f2 (build : Byte → Instr) (b1 : Byte) : Builds (.f2 build) (build b1)
  | f3 (build : Word → Instr) (w : Word) : Builds (.f3 build) (build w)

/-- The decode table cut by the opcode's high nibble, where a search is short. -/
def decodeParts : List (List Row) :=
  [decodeRows0, decodeRows1, decodeRows2, decodeRows3, decodeRows4, decodeRows5, decodeRows6, decodeRows7,
    decodeRows8, decodeRows9, decodeRowsA, decodeRowsB, decodeRowsC, decodeRowsD, decodeRowsE, decodeRowsF]

/-- The part an opcode's row would stand in. -/
def partOf (opcode : Byte) : List Row := decodeParts.getD (opcode.toNat / 16) []

theorem decodeParts_flatten : decodeParts.flatten = decodeTable := by
  simp [decodeParts, decodeTable]

/-- The rows of part `k` are those with high nibble `k`. -/
theorem decodeParts_nibble : ∀ k : Fin 16, ∀ row ∈ decodeParts.getD k [], row.opcode.toNat / 16 = k := by
  decide

theorem mem_decodeTable_iff_mem_partOf (row : Row) : row ∈ decodeTable ↔ row ∈ partOf row.opcode := by
  rw [← decodeParts_flatten, List.mem_flatten, partOf, List.getD_eq_getElem?_getD]
  constructor
  · rintro ⟨part, hpart, hrow⟩
    obtain ⟨k, hk, rfl⟩ := List.getElem_of_mem hpart
    rw [decodeParts_nibble ⟨k, hk⟩ row (by simpa [hk] using hrow)]
    simpa [hk] using hrow
  · intro hrow
    have hk : row.opcode.toNat / 16 < decodeParts.length := Nat.div_lt_of_lt_mul row.opcode.isLt
    rw [List.getElem?_eq_getElem hk] at hrow
    exact ⟨_, List.getElem_mem hk, hrow⟩

/-- The search of the whole table is the search of the opcode's part. -/
theorem findRow_eq_find_partOf (opcode : Byte) :
    findRow opcode = (partOf opcode).find? (fun row => row.opcode == opcode) := by
  cases hpart : (partOf opcode).find? (fun row => row.opcode == opcode) with
  | some row =>
    obtain rfl : row.opcode = opcode := by simpa using List.find?_some hpart
    exact findRow_of_mem ((mem_decodeTable_iff_mem_partOf row).mpr (List.mem_of_find?_eq_some hpart))
  | none =>
    rw [List.find?_eq_none] at hpart
    refine List.find?_eq_none.mpr fun row hmem heq => ?_
    obtain rfl : row.opcode = opcode := by simpa using heq
    exact hpart row ((mem_decodeTable_iff_mem_partOf row).mp hmem) heq

/-- Every instruction's opcode finds a row, and that row's format builds the instruction. -/
theorem findRow_opcode (i : Instr) : ∃ row, findRow i.opcode = some row ∧ row.template.Builds i := by
  cases i <;> dsimp only [Instr.opcode] <;> exact ⟨_, findRow_eq_find_partOf _, by constructor⟩

/-- What a row's instructions encode to: the row's opcode, then the operand bytes of its format (R80, R81). -/
def Row.Encodes (row : Row) : Prop :=
  ∀ b1 b2, match row.template with
    | .f1 i => encode i = [row.opcode]
    | .f2 build => encode (build b1) = [row.opcode, b1]
    | .f3 build => encode (build (wordOfBytes b1 b2)) =
        [row.opcode, lowByte (wordOfBytes b1 b2), highByte (wordOfBytes b1 b2)]

theorem decodeTable_encodes : ∀ row ∈ decodeTable, row.Encodes := by
  simp only [decodeTable, decodeRows0, decodeRows1, decodeRows2, decodeRows3, decodeRows4, decodeRows5, decodeRows6,
    decodeRows7, decodeRows8, decodeRows9, decodeRowsA, decodeRowsB, decodeRowsC, decodeRowsD, decodeRowsE, decodeRowsF,
    List.forall_mem_append, List.forall_mem_cons, List.not_mem_nil, false_imp_iff, implies_true, and_true]
  and_intros <;> exact fun _ _ => rfl

/-- Settles O1: the instruction's row is found by its opcode, and its format takes the operand bytes off again. -/
theorem decodeOfEncodeIsTheInstruction : Obligations.DecodeOfEncodeIsTheInstruction := by
  intro i rest
  obtain ⟨row, hrow, hbuilds⟩ := findRow_opcode i
  obtain ⟨hmem, hopcode⟩ := findRow_some hrow
  have hencodes := decodeTable_encodes row hmem
  obtain ⟨opcode, mnemonic, mode, template⟩ := row
  subst hopcode
  cases hbuilds with
  | f1 =>
    have hbytes : encode i = [_] := hencodes 0 0
    rw [hbytes]
    exact decode_f1 rest hrow
  | f2 build b1 =>
    have hbytes : encode (build b1) = [_, b1] := hencodes b1 0
    rw [hbytes]
    exact decode_f2 b1 rest hrow
  | f3 build w =>
    have hbytes := hencodes (lowByte w) (highByte w)
    simp only [wordOfBytes_low_high] at hbytes
    rw [hbytes]
    simpa using decode_f3 (lowByte w) (highByte w) rest hrow

/-- Everything an accepting decode can have read: an opcode with a row, and the operand bytes of that row's format. -/
theorem decode_ok_cases {bytes rest : List Byte} {i : Instr} (h : decode bytes = .ok (i, rest)) :
    ∃ row ∈ decodeTable,
      (row.template = .f1 i ∧ bytes = row.opcode :: rest) ∨
      (∃ build b1, row.template = .f2 build ∧ i = build b1 ∧ bytes = row.opcode :: b1 :: rest) ∨
      (∃ build b1 b2, row.template = .f3 build ∧ i = build (wordOfBytes b1 b2) ∧
        bytes = row.opcode :: b1 :: b2 :: rest) := by
  unfold decode at h
  split at h
  · cases h
  · split at h
    · cases h
    next row hrow =>
      obtain ⟨hmem, rfl⟩ := findRow_some hrow
      refine ⟨row, hmem, ?_⟩
      split at h <;> cases h
      next ht => exact .inl ⟨ht, rfl⟩
      next ht => exact .inr (.inl ⟨_, _, ht, rfl, rfl⟩)
      next ht => exact .inr (.inr ⟨_, _, _, ht, rfl, rfl⟩)

/-- Settles O2: the row read says what its instruction encodes to, which is the bytes read. -/
theorem encodeOfDecodeIsTheBytes : Obligations.EncodeOfDecodeIsTheBytes := by
  intro bytes i rest hdecode
  obtain ⟨row, hmem, hread⟩ := decode_ok_cases hdecode
  have hencodes := decodeTable_encodes row hmem
  unfold Row.Encodes at hencodes
  rcases hread with ⟨hf1, rfl⟩ | ⟨build, b1, hf2, rfl, rfl⟩ | ⟨build, b1, b2, hf3, rfl, rfl⟩
  · rw [hf1] at hencodes
    rw [hencodes 0 0]
    rfl
  · rw [hf2] at hencodes
    rw [hencodes b1 0]
    rfl
  · rw [hf3] at hencodes
    rw [hencodes b1 b2, lowByte_wordOfBytes, highByte_wordOfBytes]
    rfl

/-- The list of illegal bytes (R97) is what is left of the 256 bytes, in order, without those that have a row. -/
theorem illegalOpcodes_eq_filter :
    Claims.illegalOpcodes = ((List.range 256).map (BitVec.ofNat 8)).filter fun opcode =>
      ((partOf opcode).find? (fun row => row.opcode == opcode)).isNone := by
  decide +kernel

theorem mem_illegalOpcodes_iff (opcode : Byte) : opcode ∈ Claims.illegalOpcodes ↔ findRow opcode = none := by
  have hmem : opcode ∈ (List.range 256).map (BitVec.ofNat 8) :=
    List.mem_map.mpr ⟨opcode.toNat, List.mem_range.mpr opcode.isLt, by simp⟩
  rw [illegalOpcodes_eq_filter, List.mem_filter, ← findRow_eq_find_partOf, Option.isNone_iff_eq_none]
  exact and_iff_right hmem

/-- The decoder reports an unknown opcode exactly when the byte has no row: with a row it decodes, or reports that the
operand bytes are missing. -/
theorem decode_eq_unknownOpcode_iff (opcode : Byte) (rest : List Byte) :
    decode (opcode :: rest) = .error (.unknownOpcode opcode) ↔ findRow opcode = none := by
  constructor
  · intro hdecode
    rw [decode] at hdecode
    split at hdecode
    · assumption
    · split at hdecode <;> cases hdecode
  · exact decode_of_none rest

/-- Settles O3: a byte is unknown when it has no row, and the bytes with no row are the listed ones. -/
theorem unknownOpcodeExactlyOnTheListedBytes : Obligations.UnknownOpcodeExactlyOnTheListedBytes :=
  fun opcode rest => (decode_eq_unknownOpcode_iff opcode rest).trans (mem_illegalOpcodes_iff opcode).symm

/-- Settles O4: each word is the encoding of its instruction, with nothing after it, so O1 decodes it. -/
theorem wordsWrittenFromTheTableDecode : Obligations.WordsWrittenFromTheTableDecode := by
  have decodes := fun i => decodeOfEncodeIsTheInstruction i []
  exact ⟨decodes (.ldaAbsoluteX 0x1234), decodes (.stxZeroPageY 0x10), decodes (.sbcImmediate 0xB0),
    decodes (.bitAbsolute 0x0300), decodes (.decAbsolute 0x1234), decodes (.cmpIndexedIndirect 0x20),
    decodes .rorAccumulator, decodes .plp, decodes (.jmpIndirect 0x02FF), decodes (.bne 0xF9), decodes .sed⟩

end Sys2Proof
end

section
/-! PROOFS of the remaining flag primitives: SubCore, CompareCore, the shift functions (R122 to R124), and the packing
of the status byte (10_state.md R27, R29). A rotate is read as one of nine bits, the carry above the byte's. -/

namespace Sys2Proof.Machine

/-- The complement that turns AddCore into SubCore, in unsigned value. -/
theorem byte_xor_0xFF_toNat (m : Byte) : (m ^^^ 0xFF).toNat = 255 - m.toNat := by
  have hnot : m ^^^ 0xFF = ~~~m := BitVec.xor_allOnes
  rw [hnot, BitVec.toNat_not]

/-- The complement in signed value. -/
theorem byte_xor_0xFF_toInt (m : Byte) : (m ^^^ 0xFF).toInt = -1 - m.toInt := by
  have hm := m.isLt
  rw [byte_toInt, byte_toInt, byte_xor_0xFF_toNat]
  split <;> split <;> omega

/-- Settles O22: each claim is AddCore's about the complement, `255 - m` unsigned and `-1 - m` signed. -/
theorem subCoreIsTheExactDifferenceNarrowed : Obligations.SubCoreIsTheExactDifferenceNarrowed := by
  intro a m c
  have hm := m.isLt
  have hc := c.toNat_le
  refine ⟨rfl, ?result, ?carry, ?overflow⟩
  case result =>
    rw [subCore, addCore_r_toNat, byte_xor_0xFF_toNat]
    omega
  case carry =>
    rw [subCore, addCore_cOut_iff, byte_xor_0xFF_toNat]
    omega
  case overflow =>
    rw [subCore, addCore_vOut_iff, byte_xor_0xFF_toInt]
    omega

/-- Settles O23: with carry 1 SubCore carries when `m ≤ reg`, and its result is the wrapped difference. -/
theorem compareCoreIsSubtractionWithCarry : Obligations.CompareCoreIsSubtractionWithCarry := by
  intro reg m
  have hm := m.isLt
  obtain ⟨-, hresult, hcarry, -⟩ := subCoreIsTheExactDifferenceNarrowed reg m true
  have hdiff : (reg - m).toNat = (reg.toNat + 256 - m.toNat) % 256 := by
    rw [BitVec.toNat_sub]
    omega
  have hr : (subCore reg m true).r.toNat = (reg - m).toNat := by
    rw [Bool.toNat_true] at hresult
    omega
  have hn : (compareCore reg m).n = decide (128 ≤ (reg - m).toNat) := byte_bit7_eq _
  refine ⟨decide_eq_true_iff, beq_iff_eq, ?n, ?carryOut, ?bit7⟩
  case n => rw [hn, hdiff, decide_eq_true_iff]
  case carryOut => exact Bool.eq_iff_iff.mpr (decide_eq_true_iff.trans hcarry.symm)
  case bit7 => rw [hn, hr]

/-- The byte PHP and BRK push is the status with B and U set (logs 10 and 18). -/
theorem Flags.pushed_eq_pack (p : Flags) : p.pushed = Flags.pack { p with b := true, u := true } := by
  refine BitVec.eq_of_getElem_eq fun k hk => ?_
  rw [Flags.pushed, BitVec.getElem_or, Flags.pack_getElem, Flags.pack_getElem]
  interval_cases k <;> simp [Flags.bit]

/-- Packing an unpacked byte sets bit 5 alone (R29). -/
theorem Flags.pack_unpack (v : Byte) : (Flags.unpack v).pack = v ||| 0x20 := by
  refine BitVec.eq_of_getElem_eq fun k hk => ?_
  rw [BitVec.getElem_or, Flags.pack_getElem]
  interval_cases k <;> simp [Flags.bit]

/-- Settles O26: bit `k` of the packed status is the flag of that place, and a byte is its bits. -/
theorem statusByteHoldsTheFlags : Obligations.StatusByteHoldsTheFlags := by
  intro p v
  refine ⟨?bits, ?unpack, Flags.pack_unpack v, p.pushed_eq_pack⟩
  case bits => simp [Flags.pack_getElem, Flags.bit]
  case unpack => simp [Flags.unpack, Flags.pack_getElem, Flags.bit]

/-- A carry that enters at bit 0 is added, since doubling clears that bit. -/
theorem byte_shiftLeft_or_toNat (v : Byte) (c : Bool) :
    ((v <<< 1) ||| (BitVec.ofBool c).setWidth 8).toNat = (2 * v.toNat) % 256 + c.toNat := by
  have hdouble : (2 * v.toNat) % 256 = 2 ^ 1 * (v.toNat % 128) := by omega
  have hshift : (v <<< 1).toNat = (2 * v.toNat) % 256 := by
    rw [BitVec.toNat_shiftLeft, Nat.shiftLeft_eq, Nat.mul_comm]
  have hc : ((BitVec.ofBool c).setWidth 8).toNat = c.toNat := by cases c <;> rfl
  rw [BitVec.toNat_or, hshift, hc, hdouble, ← Nat.two_pow_add_eq_or_of_lt (Nat.lt_succ_of_le c.toNat_le)]

/-- A carry that enters at bit 7 is added, since halving clears that bit. -/
theorem byte_ushiftRight_or_toNat (v : Byte) (c : Bool) :
    ((v >>> 1) ||| ((BitVec.ofBool c).setWidth 8 <<< 7)).toNat = v.toNat / 2 + 128 * c.toNat := by
  have hv : v.toNat / 2 < 2 ^ 7 := by have := v.isLt; omega
  have hc : ((BitVec.ofBool c).setWidth 8 <<< 7).toNat = 2 ^ 7 * c.toNat := by cases c <;> rfl
  rw [BitVec.toNat_or, hc, BitVec.toNat_ushiftRight, Nat.shiftRight_eq_div_pow, Nat.or_comm, pow_one,
    ← Nat.two_pow_add_eq_or_of_lt hv, Nat.add_comm]

theorem byte_bit0_eq (v : Byte) : v[0] = decide (v.toNat % 2 = 1) := by
  rw [BitVec.getElem_eq_testBit_toNat, Nat.testBit_zero]

/-- Settles O24: a shift is a rotate with a carry of 0, and the bit shifted out is an end of the byte. -/
theorem shiftCoresMoveOneBit : Obligations.ShiftCoresMoveOneBit := by
  intro v c
  refine ⟨?asl, byte_bit7_eq v, ?lsr, byte_bit0_eq v, byte_shiftLeft_or_toNat v c, byte_bit7_eq v,
    byte_ushiftRight_or_toNat v c, byte_bit0_eq v⟩
  case asl => simpa [aslCore] using byte_shiftLeft_or_toNat v false
  case lsr => simpa [lsrCore] using byte_ushiftRight_or_toNat v false

/-- The nine bits a rotate moves: the byte's, and the carry above bit 7 (R124). -/
def ShiftResult.nineBits (o : ShiftResult) (k : Fin 9) : Bool := (BitVec.cons o.cOut o.r)[k]

theorem ShiftResult.nineBits_inj {o o' : ShiftResult} (h : o.nineBits = o'.nineBits) : o = o' := by
  have hcons : BitVec.cons o.cOut o.r = BitVec.cons o'.cOut o'.r :=
    BitVec.eq_of_getElem_eq fun k hk => congrFun h ⟨k, hk⟩
  have hr := congrArg (BitVec.setWidth 8) hcons
  have hc := congrArg BitVec.msb hcons
  rw [BitVec.setWidth_cons, BitVec.setWidth_cons] at hr
  rw [BitVec.msb_cons, BitVec.msb_cons] at hc
  cases o
  cases o'
  exact congrArg₂ ShiftResult.mk hr hc

/-- ROL moves each of the nine bits up by one place, the top one to the bottom. -/
theorem rolCore_nineBits (o : ShiftResult) (k : Fin 9) : (rolCore o.r o.cOut).nineBits k = o.nineBits (k - 1) := by
  fin_cases k <;> simp [ShiftResult.nineBits, rolCore, BitVec.getElem_cons]

/-- ROR moves each of the nine bits down by one place, the bottom one to the top. -/
theorem rorCore_nineBits (o : ShiftResult) (k : Fin 9) : (rorCore o.r o.cOut).nineBits k = o.nineBits (k + 1) := by
  fin_cases k <;> simp [ShiftResult.nineBits, rorCore, BitVec.getElem_cons]

theorem iterate_rolCore_nineBits (n : Nat) (o : ShiftResult) (k : Fin 9) :
    ((fun o : ShiftResult => rolCore o.r o.cOut)^[n] o).nineBits k = o.nineBits (k - n • 1) := by
  induction n generalizing o with
  | zero => simp
  | succ n ih => rw [Function.iterate_succ_apply, ih, rolCore_nineBits, succ_nsmul, sub_sub]

/-- Settles O25: places are counted mod 9, where one up and one down cancel and nine up is none. -/
theorem rotatesAreNineBitRotations : Obligations.RotatesAreNineBitRotations := by
  intro v c
  refine ⟨?rorRol, ?rolRor, ?nine⟩ <;> refine ShiftResult.nineBits_inj (funext fun k => ?_)
  case rorRol => rw [rorCore_nineBits, rolCore_nineBits ⟨v, c⟩, add_sub_cancel_right]
  case rolRor => rw [rolCore_nineBits, rorCore_nineBits ⟨v, c⟩, sub_add_cancel]
  case nine =>
    have hturn : 9 • (1 : Fin 9) = 0 := rfl
    rw [iterate_rolCore_nineBits, hturn, sub_zero]

end Sys2Proof.Machine
end

section
/-! PROOFS of the addresses a pointer or a word read gives (20_memory.md R55, 30_encoding.md R91, R92, R96) and of the
instructions whose families stand above only in part: the stores, BIT, the branches, BRK and RTI, and the flag
instructions; after them each push, call or trap followed by its pull or return. -/

namespace Sys2Proof.Machine

/-- Counting a word up wraps mod 65536. -/
theorem word_add_one_eq_ofNat (w : Word) : w + 1 = BitVec.ofNat 16 ((w.toNat + 1) % 65536) := by
  refine BitVec.eq_of_toNat_eq ?_
  rw [BitVec.toNat_ofNat, Nat.mod_mod]
  exact BitVec.toNat_add w 1

/-- Settles O19: the high byte is read at the incremented word. -/
theorem wordReadIsLittleEndianAndWraps : Obligations.WordReadIsLittleEndianAndWraps := by
  intro s addr
  rw [State.read16, wordOfBytes_toNat, word_add_one_eq_ofNat]

/-- Settles O29: each is the zero-page word read of O18, of the indexed pointer or with the index added after. -/
theorem indirectModesDereferenceThePointer : Obligations.IndirectModesDereferenceThePointer := by
  intro s ptr
  constructor
  · have hword := zeroPagePointerWrapsInThePage s (ptr + s.x)
    rw [BitVec.toNat_add, Nat.mod_add_mod] at hword
    exact hword
  · rw [State.ea, add_zext16_toNat, zeroPagePointerWrapsInThePage]

/-- With the bug on, the pointer's low byte is incremented within its page; with it off, the pointer is (R96). -/
theorem State.indirectHighAddr_eq_ofNat (s : State) (ptr : Word) :
    s.indirectHighAddr ptr = BitVec.ofNat 16
      (if s.config.jmpIndirectPageWrapBug then ptr.toNat / 256 * 256 + (ptr.toNat % 256 + 1) % 256
       else (ptr.toNat + 1) % 65536) := by
  rw [State.indirectHighAddr]
  split
  · refine BitVec.eq_of_toNat_eq ?_
    rw [wordOfBytes_toNat, highByte_toNat, byte_add_one_toNat, lowByte_toNat, BitVec.toNat_ofNat]
    have := ptr.isLt
    omega
  · exact word_add_one_eq_ofNat ptr

/-- Settles O31: the word of the byte at the pointer and the byte at `indirectHighAddr`. -/
theorem indirectJumpReadsItsPointer : Obligations.IndirectJumpReadsItsPointer := by
  intro s ptr
  rw [State.indirectTarget, wordOfBytes_toNat, State.indirectHighAddr_eq_ofNat]

/-- The register each store writes (R143 to R145). -/
def storedRegister (s : State) : Mnemonic → Option Byte
  | .sta => some s.a
  | .stx => some s.x
  | .sty => some s.y
  | _ => none

/-- Every form of a store has an address operand, and is `storeByte` there of its mnemonic's register. -/
theorem exec_store {i : Instr} {s : State} {v : Byte} (h : storedRegister s i.mnemonic = some v) :
    ∃ mode, i.operand = .addressed mode ∧ exec i s = storeByte mode v s := by
  cases i with
  | staZeroPage | staZeroPageX | staAbsolute | staAbsoluteX | staAbsoluteY | staIndexedIndirect | staIndirectIndexed
  | stxZeroPage | stxZeroPageY | stxAbsolute | styZeroPage | styZeroPageX | styAbsolute =>
    cases h
    exact ⟨_, rfl, rfl⟩
  | _ => cases h

/-- Settles O33: the mnemonic fixes the register in each of the three cases, and `storeByte` writes the one byte. -/
theorem storesWriteOneByte : Obligations.StoresWriteOneByte := by
  intro i s v hpair
  have hv : storedRegister s i.mnemonic = some v := by
    rcases hpair with ⟨hsta, rfl⟩ | ⟨hstx, rfl⟩ | ⟨hsty, rfl⟩
    · exact congrArg (storedRegister s) hsta
    · exact congrArg (storedRegister s) hstx
    · exact congrArg (storedRegister s) hsty
  obtain ⟨mode, hoperand, hexec⟩ := exec_store hv
  refine ⟨mode, _, hoperand, hexec, write_oneByteWritten _ _ _, ?state⟩
  case state =>
    rw [Claims.pcNext, Instr.length, hoperand]
    exact storeByte_next rfl

/-- Both forms of BIT are `bitTest` of their address operand. -/
theorem exec_bit {i : Instr} (h : i.mnemonic = .bit) (s : State) :
    ∃ mode, i.operand = .addressed mode ∧ exec i s = bitTest mode s := by
  cases i with
  | bitZeroPage | bitAbsolute => exact ⟨_, rfl, rfl⟩
  | _ => cases h

/-- Settles O37: `bitTest` sets the three flags from the byte at the effective address. -/
theorem bitTestsTheOperand : Obligations.BitTestsTheOperand := by
  intro i s hbit
  obtain ⟨mode, hoperand, hexec⟩ := exec_bit hbit s
  rw [hexec, Claims.pcNext, Instr.length, hoperand]
  exact ⟨s.read (s.ea mode), rfl, rfl⟩

/-- Every branch is `branch` of its condition and its displacement. -/
theorem exec_branch {i : Instr} {s : State} {taken : Bool} (h : Claims.branchTaken s.p i.mnemonic = some taken) :
    ∃ disp, i.operand = .relative disp ∧ exec i s = branch taken disp s := by
  cases i with
  | bcc | bcs | beq | bne | bpl | bmi | bvc | bvs =>
    cases h
    exact ⟨_, rfl, rfl⟩
  | _ => cases h

/-- Settles O47: a branch answers the next state of `branch_next`. -/
theorem branchesTestOneFlag : Obligations.BranchesTestOneFlag := by
  intro i s taken htaken
  obtain ⟨disp, hoperand, hexec⟩ := exec_branch htaken
  obtain ⟨t, hnext, -⟩ := branch_completes taken disp s
  refine ⟨disp, hoperand, ?_⟩
  rw [hexec, hnext, branch_next hnext]

/-- SP after three pushes. -/
theorem sp_sub_one_sub_one_sub_one (sp : Byte) : sp - 1 - 1 - 1 = sp - 3 := by
  rw [sub_sub, sub_sub]
  rfl

/-- BRK's whole next state (R231). -/
theorem exec_brk (s : State) :
    exec .brk s =
      .next { s with mem := (s.saveForTrap (s.pc + 2)).mem, sp := s.sp - 3, p := { s.p with i := true },
                     pc := s.read16 brkVector } := by
  change Host.Outcome.next (s.enterTrap (s.pc + 2)) = _
  rw [State.enterTrap_eq, sp_sub_one_sub_one_sub_one]

/-- RTI's whole next state (R232). -/
theorem exec_rti (s : State) :
    exec .rti s =
      .next { s with sp := s.sp + 3, p := Flags.unpack (s.read (stackAddr (s.sp + 1))),
                     pc := wordOfBytes (s.read (stackAddr (s.sp + 2))) (s.read (stackAddr (s.sp + 3))) } := by
  have hthree : s.sp + 1 + 1 + 1 = s.sp + 3 := by
    rw [add_assoc, add_assoc]
    rfl
  rw [← hthree, ← sp_add_one_add_one]
  rfl

/-- What the trap saves: the status, at the third location. -/
theorem State.read_saveForTrap_status (s : State) (ret : Word) :
    (s.saveForTrap ret).read (stackAddr (s.sp - 2)) = s.p.pushed := by
  rw [State.read_saveForTrap, sp_sub_one_sub_one, if_pos rfl]

/-- What the trap saves: the return address's low byte, at the second location. -/
theorem State.read_saveForTrap_low (s : State) (ret : Word) :
    (s.saveForTrap ret).read (stackAddr (s.sp - 1)) = lowByte ret := by
  rw [State.read_saveForTrap, if_neg (stackAddr_ne_stackAddr_sub_one (s.sp - 1)), if_pos rfl]

/-- What the trap saves: the return address's high byte, at the first location. -/
theorem State.read_saveForTrap_high (s : State) (ret : Word) :
    (s.saveForTrap ret).read (stackAddr s.sp) = highByte ret := by
  have hthird : stackAddr s.sp ≠ stackAddr (s.sp - 1 - 1) := by
    rw [Ne, stackAddr_inj]
    bv_omega
  rw [State.read_saveForTrap, if_neg hthird, if_neg (stackAddr_ne_stackAddr_sub_one s.sp), if_pos rfl]

/-- What the trap saves leaves every byte but its three stack locations. -/
theorem State.read_saveForTrap_other (s : State) (ret : Word) {addr : Word} (hhigh : addr ≠ stackAddr s.sp)
    (hlow : addr ≠ stackAddr (s.sp - 1)) (hstatus : addr ≠ stackAddr (s.sp - 2)) :
    (s.saveForTrap ret).read addr = s.read addr := by
  rw [State.read_saveForTrap, sp_sub_one_sub_one, if_neg hstatus, if_neg hlow, if_neg hhigh]

/-- Settles O48: BRK's memory is what the trap saves, whose three bytes and frame the `State.read_saveForTrap` lemmas
give; all else is `State.enterTrap_eq`. -/
theorem brkTakesTheTrap : Obligations.BrkTakesTheTrap := by
  intro s
  have hread := State.read_congr (s.enterTrap_mem (s.pc + 2))
  refine ⟨s.enterTrap (s.pc + 2), rfl, ?high, ?low, ?status, ?frame, ?state⟩
  case high => exact (hread _).trans (s.read_saveForTrap_high _)
  case low => exact (hread _).trans (s.read_saveForTrap_low _)
  case status => exact (hread _).trans (s.read_saveForTrap_status _)
  case frame =>
    exact fun addr hhigh hlow hstatus => (hread addr).trans (s.read_saveForTrap_other _ hhigh hlow hstatus)
  case state =>
    have hvector : wordOfBytes (s.read 0xFFFE) (s.read 0xFFFF) = s.read16 brkVector := rfl
    rw [State.enterTrap_mem, State.enterTrap_eq, sp_sub_one_sub_one_sub_one, hvector]

/-- Settles O49: RTI's next state, with the flags unpacked from the byte above SP. -/
theorem rtiRestoresFlagsAndPc : Obligations.RtiRestoresFlagsAndPc := by
  rintro s v rfl
  exact exec_rti s

/-- Settles O50: each handler is the advance of PC and its one flag, NOP's the advance alone. -/
theorem flagInstructionsWriteOneFlag : Obligations.FlagInstructionsWriteOneFlag :=
  fun _ => ⟨rfl, rfl, rfl, rfl, rfl, rfl, rfl, rfl⟩

/-- SP is back after two pushes and two pulls. -/
theorem sp_sub_two_add_two (sp : Byte) : sp - 2 + 2 = sp := BitVec.sub_add_cancel sp 2

/-- A 16-bit pull after a 16-bit push returns the word pushed (R62, R63). -/
theorem State.pulled16_push16 (s : State) (w : Word) : (s.push16 w).pulled16 = w := by
  have hlow : s.sp - 2 + 1 = s.sp - 1 := by bv_omega
  rw [State.pulled16_eq, State.push16_sp, sp_sub_one_sub_one, hlow, sp_sub_two_add_two, State.read_push16_low,
    State.read_push16_high, wordOfBytes_low_high]

/-- Settles O17: the pulls find what the pushes wrote (`State.pulled_push`, `State.pulled16_push16`), and the 16-bit
push's two bytes and frame are the `State.read_push16` lemmas'. -/
theorem pushedValuesArePulledBack : Obligations.PushedValuesArePulledBack := by
  intro s v w
  refine ⟨s.pulled_push v, BitVec.sub_add_cancel s.sp 1, ?high, ?low, ?frame, s.pulled16_push16 w, ?sp⟩
  case high => rw [← stackAddr_eq_ofNat, State.read_push16_high]
  case low => rw [← byte_sub_one_toNat, ← stackAddr_eq_ofNat, State.read_push16_low]
  case frame => exact fun _ hhigh hlow => s.read_push16_other w hhigh hlow
  case sp => rw [State.pull16_sp, State.push16_sp, sp_sub_one_sub_one, sp_add_one_add_one, sp_sub_two_add_two]

/-- Settles O55: RTS pulls the two bytes JSR pushed, the address of JSR's last byte, and adds 1. -/
theorem subroutineReturnRestoresPcAndSp : Obligations.SubroutineReturnRestoresPcAndSp := by
  intro s target
  obtain ⟨t, hjsr, hhigh, hlow, -, ht⟩ := jsrPushesTheAddressOfItsLastByte s target
  have hsp : t.sp = s.sp - 2 := by rw [ht]
  have h1 : t.sp + 1 = s.sp - 1 := by bv_omega
  have h2 : t.sp + 2 = s.sp := by bv_omega
  have hpc : s.pc + 2 + 1 = s.pc + 3 := BitVec.add_assoc s.pc 2 1
  refine ⟨t, hjsr, ?_⟩
  rw [exec_rts, State.pulled16_eq, h1, h2, hlow, hhigh, wordOfBytes_low_high, hpc, ht]

/-- Settles O56: RTI pulls the three bytes BRK saved; unpacking the status restores I, which BRK set after saving. -/
theorem trapReturnRestoresTheFlags : Obligations.TrapReturnRestoresTheFlags := by
  intro s hu
  obtain ⟨t, hbrk, hhigh, hlow, hstatus, -, ht⟩ := brkTakesTheTrap s
  have hsp : t.sp = s.sp - 3 := by rw [ht]
  have h1 : t.sp + 1 = s.sp - 2 := by bv_omega
  have h2 : t.sp + 2 = s.sp - 1 := by bv_omega
  have h3 : t.sp + 3 = s.sp := by bv_omega
  have hp : Flags.unpack (s.p.pack ||| 0x30) = { s.p with b := true } := Flags.unpack_pushed hu
  refine ⟨t, hbrk, ?_⟩
  rw [exec_rti, h1, h2, h3, hstatus, hlow, hhigh, wordOfBytes_low_high, hp, ht]

end Sys2Proof.Machine
end

section
/-! PROOFS about all instructions at once: what an instruction writes (40_step_and_flag_primitives.md R116), where it
leaves PC (R113), and the invariant. `exec_effect` says once which fields an instruction of each mnemonic can write;
the frame and the invariant are read off its cases. -/

namespace Sys2Proof.Machine

/-- What executing an instruction can do, by the fields it writes beside PC: one constructor for each set of fields,
with the mnemonics that write it, and for a store its address as the claims compute it. -/
inductive Effect (s : State) (i : Instr) : State → Prop
  | onlyPc (pc : Word) : Effect s i { s with pc := pc }
  | setsA (v : Byte) (pc : Word) (hm : i.mnemonic ∈ [.lda, .txa, .tya, .and, .ora, .eor]) :
      Effect s i { s with a := v, p := s.p.setZN v, pc := pc }
  | setsX (v : Byte) (pc : Word) (hm : i.mnemonic ∈ [.ldx, .tax, .tsx, .inx, .dex]) :
      Effect s i { s with x := v, p := s.p.setZN v, pc := pc }
  | setsY (v : Byte) (pc : Word) (hm : i.mnemonic ∈ [.ldy, .tay, .iny, .dey]) :
      Effect s i { s with y := v, p := s.p.setZN v, pc := pc }
  | setsSp (sp : Byte) (pc : Word) (hm : i.mnemonic ∈ [.txs, .rts]) : Effect s i { s with sp := sp, pc := pc }
  | adds (o : AddResult) (pc : Word) (hm : i.mnemonic ∈ [.adc, .sbc]) :
      Effect s i { s with a := o.r, p := { s.p with c := o.cOut, v := o.vOut }.setZN o.r, pc := pc }
  | compares (o : CompareResult) (pc : Word) (hm : i.mnemonic ∈ [.cmp, .cpx, .cpy]) :
      Effect s i { s with p := { s.p with c := o.c, z := o.z, n := o.n }, pc := pc }
  | testsBits (z n v : Bool) (pc : Word) (hm : i.mnemonic ∈ [.bit]) :
      Effect s i { s with p := { s.p with z := z, n := n, v := v }, pc := pc }
  | shiftsA (o : ShiftResult) (pc : Word) (hm : i.mnemonic ∈ Claims.shifts) (ho : i.operand = .accumulator) :
      Effect s i { s with a := o.r, p := { s.p with c := o.cOut }.setZN o.r, pc := pc }
  | shiftsByte (addr : Word) (o : ShiftResult) (pc : Word) (hm : i.mnemonic ∈ Claims.shifts)
      (hstored : Claims.storedAddresses i s = [addr]) :
      Effect s i { s with mem := (s.write addr o.r).mem, p := { s.p with c := o.cOut }.setZN o.r, pc := pc }
  | stepsByte (addr : Word) (v : Byte) (pc : Word) (hm : i.mnemonic ∈ [.inc, .dec])
      (hstored : Claims.storedAddresses i s = [addr]) :
      Effect s i { s with mem := (s.write addr v).mem, p := s.p.setZN v, pc := pc }
  | stores (addr : Word) (v : Byte) (pc : Word) (hstored : Claims.storedAddresses i s = [addr]) :
      Effect s i { s with mem := (s.write addr v).mem, pc := pc }
  | pushes (v : Byte) (pc : Word) (hm : i.mnemonic ∈ [.pha, .php])
      (hstored : Claims.storedAddresses i s = [stackAddr s.sp]) :
      Effect s i { s with mem := (s.push v).mem, sp := s.sp - 1, pc := pc }
  | calls (w pc : Word) (mem : Memory) (hm : i.mnemonic ∈ [.jsr])
      (hstored : Claims.storedAddresses i s = [stackAddr s.sp, stackAddr (s.sp - 1)])
      (hmem : mem = (s.push16 w).mem) : Effect s i { s with mem := mem, sp := s.sp - 2, pc := pc }
  | traps (ret pc : Word) (mem : Memory) (hm : i.mnemonic ∈ [.brk])
      (hstored : Claims.storedAddresses i s = [stackAddr s.sp, stackAddr (s.sp - 1), stackAddr (s.sp - 2)])
      (hmem : mem = (s.saveForTrap ret).mem) :
      Effect s i { s with mem := mem, sp := s.sp - 3, p := { s.p with i := true }, pc := pc }
  | pullsA (v sp : Byte) (pc : Word) (hm : i.mnemonic ∈ [.pla]) :
      Effect s i { s with a := v, p := s.p.setZN v, sp := sp, pc := pc }
  | pullsP (v sp : Byte) (pc : Word) (hm : i.mnemonic ∈ [.plp, .rti]) :
      Effect s i { s with p := Flags.unpack v, sp := sp, pc := pc }
  | setsC (c : Bool) (pc : Word) (hm : i.mnemonic ∈ [.clc, .sec]) :
      Effect s i { s with p := { s.p with c := c }, pc := pc }
  | setsI (b : Bool) (pc : Word) (hm : i.mnemonic ∈ [.cli, .sei]) :
      Effect s i { s with p := { s.p with i := b }, pc := pc }
  | setsD (d : Bool) (pc : Word) (hm : i.mnemonic ∈ [.cld, .sed]) :
      Effect s i { s with p := { s.p with d := d }, pc := pc }
  | setsV (v : Bool) (pc : Word) (hm : i.mnemonic ∈ [.clv]) :
      Effect s i { s with p := { s.p with v := v }, pc := pc }

/-- Every instruction has one of these effects: its next state, read off its handler. -/
theorem exec_effect {i : Instr} {s t : State} (h : exec i s = .next t) : Effect s i t := by
  cases i with
  | bcc | bcs | beq | bne | bpl | bmi | bvc | bvs =>
    rw [branch_next h]
    exact .onlyPc _
  | ldaImmediate | ldaZeroPage | ldaZeroPageX | ldaAbsolute | ldaAbsoluteX | ldaAbsoluteY | ldaIndexedIndirect
  | ldaIndirectIndexed | txa | tya | andImmediate | andZeroPage | andZeroPageX | andAbsolute | andAbsoluteX
  | andAbsoluteY | andIndexedIndirect | andIndirectIndexed | oraImmediate | oraZeroPage | oraZeroPageX | oraAbsolute
  | oraAbsoluteX | oraAbsoluteY | oraIndexedIndirect | oraIndirectIndexed | eorImmediate | eorZeroPage | eorZeroPageX
  | eorAbsolute | eorAbsoluteX | eorAbsoluteY | eorIndexedIndirect | eorIndirectIndexed =>
    cases h
    exact .setsA _ _ (List.mem_of_elem_eq_true rfl)
  | ldxImmediate | ldxZeroPage | ldxZeroPageY | ldxAbsolute | ldxAbsoluteY | tax | tsx | inx | dex =>
    cases h
    exact .setsX _ _ (List.mem_of_elem_eq_true rfl)
  | ldyImmediate | ldyZeroPage | ldyZeroPageX | ldyAbsolute | ldyAbsoluteX | tay | iny | dey =>
    cases h
    exact .setsY _ _ (List.mem_of_elem_eq_true rfl)
  | txs | rts =>
    cases h
    exact .setsSp _ _ (List.mem_of_elem_eq_true rfl)
  | adcImmediate | adcZeroPage | adcZeroPageX | adcAbsolute | adcAbsoluteX | adcAbsoluteY | adcIndexedIndirect
  | adcIndirectIndexed | sbcImmediate | sbcZeroPage | sbcZeroPageX | sbcAbsolute | sbcAbsoluteX | sbcAbsoluteY
  | sbcIndexedIndirect | sbcIndirectIndexed =>
    cases h
    exact .adds _ _ (List.mem_of_elem_eq_true rfl)
  | cmpImmediate | cmpZeroPage | cmpZeroPageX | cmpAbsolute | cmpAbsoluteX | cmpAbsoluteY | cmpIndexedIndirect
  | cmpIndirectIndexed | cpxImmediate | cpxZeroPage | cpxAbsolute | cpyImmediate | cpyZeroPage | cpyAbsolute =>
    cases h
    exact .compares _ _ (List.mem_of_elem_eq_true rfl)
  | bitZeroPage | bitAbsolute =>
    cases h
    exact .testsBits _ _ _ _ (List.mem_of_elem_eq_true rfl)
  | aslAccumulator | lsrAccumulator | rolAccumulator | rorAccumulator =>
    cases h
    exact .shiftsA _ _ (List.mem_of_elem_eq_true rfl) rfl
  | aslZeroPage | aslZeroPageX | aslAbsolute | aslAbsoluteX | lsrZeroPage | lsrZeroPageX | lsrAbsolute
  | lsrAbsoluteX | rolZeroPage | rolZeroPageX | rolAbsolute | rolAbsoluteX | rorZeroPage | rorZeroPageX | rorAbsolute
  | rorAbsoluteX =>
    cases h
    exact .shiftsByte _ _ _ (List.mem_of_elem_eq_true rfl) rfl
  | incZeroPage | incZeroPageX | incAbsolute | incAbsoluteX | decZeroPage | decZeroPageX | decAbsolute
  | decAbsoluteX =>
    cases h
    exact .stepsByte _ _ _ (List.mem_of_elem_eq_true rfl) rfl
  | staZeroPage | staZeroPageX | staAbsolute | staAbsoluteX | staAbsoluteY | staIndexedIndirect | staIndirectIndexed
  | stxZeroPage | stxZeroPageY | stxAbsolute | styZeroPage | styZeroPageX | styAbsolute =>
    cases h
    exact .stores _ _ _ rfl
  | pha | php =>
    cases h
    exact .pushes _ _ (List.mem_of_elem_eq_true rfl) rfl
  | clc | sec =>
    cases h
    exact .setsC _ _ (List.mem_of_elem_eq_true rfl)
  | cli | sei =>
    cases h
    exact .setsI _ _ (List.mem_of_elem_eq_true rfl)
  | cld | sed =>
    cases h
    exact .setsD _ _ (List.mem_of_elem_eq_true rfl)
  | clv => cases h; exact .setsV _ _ (List.mem_of_elem_eq_true rfl)
  | jsr target =>
    rw [exec_jsr] at h
    cases h
    exact .calls _ _ _ (List.mem_of_elem_eq_true rfl) rfl rfl
  | brk =>
    rw [exec_brk] at h
    cases h
    exact .traps _ _ _ (List.mem_of_elem_eq_true rfl) rfl rfl
  | pla => cases h; exact .pullsA _ _ _ (List.mem_of_elem_eq_true rfl)
  | plp | rti => cases h; exact .pullsP _ _ _ (List.mem_of_elem_eq_true rfl)
  | jmpAbsolute | jmpIndirect | nop => cases h; exact .onlyPc _

/-- A mnemonic of one list is in every list that holds that one. -/
theorem absurd_of_subset {small big : List Mnemonic} {m : Mnemonic} {P : Prop} (hm : m ∈ small) (hn : m ∉ big)
    (hsub : small ⊆ big := by decide +kernel) : P :=
  absurd (hsub hm) hn

/-! ### The frame: a field is kept by every effect but those that write it -/

section Frame

variable {i : Instr} {s t : State}

theorem Effect.keeps_c (h : Effect s i t) (hn : i.mnemonic ∉
      [.adc, .sbc, .cmp, .cpx, .cpy, .asl, .lsr, .rol, .ror, .clc, .sec, .plp, .rti]) :
    t.p.c = s.p.c := by
  cases h with
  | setsC _ _ hm | adds _ _ hm | compares _ _ hm | shiftsA _ _ hm | shiftsByte _ _ _ hm | pullsP _ _ _ hm =>
    exact absurd_of_subset hm hn
  | _ => rfl

theorem Effect.keeps_zn (h : Effect s i t) (hn : i.mnemonic ∉
      [.lda, .ldx, .ldy, .tax, .tay, .txa, .tya, .tsx, .pla, .adc, .sbc, .and, .ora, .eor, .inc, .dec, .inx,
      .dex, .iny, .dey, .asl, .lsr, .rol, .ror, .cmp, .cpx, .cpy, .bit, .plp, .rti]) :
    t.p.z = s.p.z ∧ t.p.n = s.p.n := by
  cases h with
  | setsA _ _ hm | setsX _ _ hm | setsY _ _ hm | adds _ _ hm | compares _ _ hm | testsBits _ _ _ _ hm
  | shiftsA _ _ hm | shiftsByte _ _ _ hm | stepsByte _ _ _ hm | pullsA _ _ _ hm | pullsP _ _ _ hm =>
    exact absurd_of_subset hm hn
  | _ => exact ⟨rfl, rfl⟩

theorem Effect.keeps_i (h : Effect s i t) (hn : i.mnemonic ∉ [.brk, .sei, .cli, .plp, .rti]) : t.p.i = s.p.i := by
  cases h with
  | setsI _ _ hm | traps _ _ _ hm | pullsP _ _ _ hm => exact absurd_of_subset hm hn
  | _ => rfl

theorem Effect.keeps_d (h : Effect s i t) (hn : i.mnemonic ∉ [.sed, .cld, .plp, .rti]) : t.p.d = s.p.d := by
  cases h with
  | setsD _ _ hm | pullsP _ _ _ hm => exact absurd_of_subset hm hn
  | _ => rfl

theorem Effect.keeps_b (h : Effect s i t) (hn : i.mnemonic ∉ [.plp, .rti]) : t.p.b = s.p.b := by
  cases h with
  | pullsP _ _ _ hm => exact absurd_of_subset hm hn
  | _ => rfl

theorem Effect.keeps_v (h : Effect s i t) (hn : i.mnemonic ∉
      [.adc, .sbc, .bit, .clv, .plp, .rti]) :
    t.p.v = s.p.v := by
  cases h with
  | setsV _ _ hm | adds _ _ hm | testsBits _ _ _ _ hm | pullsP _ _ _ hm => exact absurd_of_subset hm hn
  | _ => rfl

theorem Effect.keeps_u (h : Effect s i t) (hn : i.mnemonic ∉ [.plp, .rti]) : t.p.u = s.p.u := by
  cases h with
  | pullsP _ _ _ hm => exact absurd_of_subset hm hn
  | _ => rfl

/-- Unpacking writes U, and sets it (10_state.md R29). -/
theorem Effect.keeps_u_set (h : Effect s i t) (hu : s.p.u = true) : t.p.u = true := by
  cases h with
  | pullsP => rfl
  | _ => exact hu

theorem Effect.keeps_a (h : Effect s i t) (hn : i.mnemonic ∉ [.lda, .pla, .txa, .tya, .adc, .sbc, .and, .ora, .eor])
    (hshift : ¬(i.mnemonic ∈ Claims.shifts ∧ i.operand = .accumulator)) : t.a = s.a := by
  cases h with
  | setsA _ _ hm | adds _ _ hm | pullsA _ _ _ hm => exact absurd_of_subset hm hn
  | shiftsA _ _ hm ho => exact absurd ⟨hm, ho⟩ hshift
  | _ => rfl

theorem Effect.keeps_x (h : Effect s i t) (hn : i.mnemonic ∉ [.ldx, .tax, .tsx, .inx, .dex]) : t.x = s.x := by
  cases h with
  | setsX _ _ hm => exact absurd_of_subset hm hn
  | _ => rfl

theorem Effect.keeps_y (h : Effect s i t) (hn : i.mnemonic ∉ [.ldy, .tay, .iny, .dey]) : t.y = s.y := by
  cases h with
  | setsY _ _ hm => exact absurd_of_subset hm hn
  | _ => rfl

theorem Effect.keeps_sp (h : Effect s i t) (hn : i.mnemonic ∉
      [.txs, .pha, .php, .pla, .plp, .jsr, .rts, .brk, .rti]) :
    t.sp = s.sp := by
  cases h with
  | setsSp _ _ hm | pushes _ _ hm | calls _ _ _ hm | traps _ _ _ hm | pullsA _ _ _ hm | pullsP _ _ _ hm =>
    exact absurd_of_subset hm hn
  | _ => rfl

/-- A byte that is not stored to is read through the writes. -/
theorem Effect.keeps_read (h : Effect s i t) (addr : Word) (hn : addr ∉ Claims.storedAddresses i s) :
    t.read addr = s.read addr := by
  cases h with
  | stores _ _ _ hstored | stepsByte _ _ _ _ hstored | shiftsByte _ _ _ _ hstored | pushes _ _ _ hstored =>
    rw [hstored, List.mem_singleton] at hn
    exact s.read_write_other _ hn
  | calls w _ _ _ hstored hmem =>
    rw [hstored, List.mem_cons, List.mem_singleton, not_or] at hn
    obtain ⟨hhigh, hlow⟩ := hn
    exact (State.read_congr hmem addr).trans (s.read_push16_other w hhigh hlow)
  | traps ret _ _ _ hstored hmem =>
    rw [hstored, List.mem_cons, List.mem_cons, List.mem_singleton, not_or, not_or] at hn
    obtain ⟨hhigh, hlow, hstatus⟩ := hn
    exact (State.read_congr hmem addr).trans (s.read_saveForTrap_other ret hhigh hlow hstatus)
  | _ => rfl

theorem Effect.keeps_run_config (h : Effect s i t) : t.run = s.run ∧ t.config = s.config := by
  cases h <;> exact ⟨rfl, rfl⟩

end Frame

/-- Settles O51: what each field's `Effect.keeps` lemma says of the instruction's effect. -/
theorem whatNoRuleNamesKeepsItsValue : Obligations.WhatNoRuleNamesKeepsItsValue := by
  intro i s t hexec
  have h := exec_effect hexec
  exact ⟨h.keeps_c, h.keeps_zn, h.keeps_i, h.keeps_d, h.keeps_b, h.keeps_v, h.keeps_u, h.keeps_u_set, h.keeps_a,
    h.keeps_x, h.keeps_y, h.keeps_sp, h.keeps_read, h.keeps_run_config⟩

/-- Memory changes by writes alone, which keep the canonical form. -/
theorem Effect.keeps_wf {i : Instr} {s t : State} (h : Effect s i t) (hwf : s.mem.wf) : t.mem.wf := by
  cases h with
  | stores | stepsByte | shiftsByte => exact State.write_wf _ _ hwf
  | pushes v => exact State.push_wf v hwf
  | calls w _ mem _ _ hmem =>
    change mem.wf
    exact hmem ▸ State.push16_wf w hwf
  | traps ret _ mem _ _ hmem =>
    change mem.wf
    exact hmem ▸ State.saveForTrap_wf ret hwf
  | _ => exact hwf

/-- Settles O10: a step executes an instruction, or becomes Halted and keeps memory and the flags. -/
theorem invariantKeptByEveryStep : Obligations.InvariantKeptByEveryStep := by
  intro s t hinv hstep
  obtain ⟨-, ⟨i, -, hexec⟩ | ⟨-, -, rfl⟩⟩ := step_next_cases hstep
  · obtain ⟨hu, hwf⟩ := hinv
    exact ⟨(exec_effect hexec).keeps_u_set hu, (exec_effect hexec).keeps_wf hwf⟩
  · exact hinv

/-- Settles O11: U is 1 after reset, and cleared memory is in the canonical form. -/
theorem resetMeetsTheInvariant : Obligations.ResetMeetsTheInvariant := ⟨rfl, Memory.wf_nil⟩

/-- Every instruction that is no control transfer moves PC past itself (40_step_and_flag_primitives.md R113). -/
theorem exec_pc {i : Instr} {s t : State} (hexec : exec i s = .next t)
    (hn : i.mnemonic ∉ [.jmp, .jsr, .rts, .rti, .brk] ++ Claims.branches) : t.pc = Claims.pcNext i s := by
  cases i with
  | jmpAbsolute | jmpIndirect | jsr | rts | rti | brk | bcc | bcs | beq | bne | bpl | bmi | bvc | bvs =>
    exact absurd (List.mem_of_elem_eq_true rfl) hn
  | _ => cases hexec; rfl

/-- Settles O52: the advance of PC is `exec_pc`, and a branch not taken is O47. -/
theorem pcAdvancesByTheLengthUnlessTransferred : Obligations.PcAdvancesByTheLengthUnlessTransferred := by
  intro i s t hexec
  constructor
  · intro hn
    rw [exec_pc hexec hn, Claims.pcNext, BitVec.toNat_add, BitVec.toNat_ofNat, Nat.add_mod_mod]
  · intro hnot
    obtain ⟨disp, -, hnext⟩ := branchesTestOneFlag i s false hnot
    rw [hexec] at hnext
    cases hnext
    rfl

end Sys2Proof.Machine
end

section
/-! PROOFS that a step does not look at the stored B, and that no instruction but PHP and BRK looks at I or D
(10_state.md section 3; 92_eei_decisions.md D6, D7, D11). Two runs from states that differ in such a flag are compared
handler by handler: only the branches, PHP and BRK need more than their handler's text. -/

namespace Sys2Proof.Machine

/-- A branch looks at the flags through its condition alone, and keeps them. -/
theorem branch_with_flags {s t : State} {taken : Bool} {disp : Byte} (p : Flags) (h : branch taken disp s = .next t) :
    branch taken disp { s with p := p } = .next { t with p := p } := by
  rw [branch_next h]
  cases taken <;> rfl

theorem branch_keeps_flags {s t : State} {taken : Bool} {disp : Byte} (h : branch taken disp s = .next t) :
    t.p = s.p := by
  rw [branch_next h]

/-- The byte PHP and BRK push has bit 4 set whatever the stored B is. -/
theorem Flags.pushed_with_b (p : Flags) (b : Bool) : Flags.pushed { p with b := b } = p.pushed := by
  rw [Flags.pushed_eq_pack, Flags.pushed_eq_pack]

/-- What the trap saves does not show the stored B. -/
theorem State.saveForTrap_mem_with_b (s : State) (b : Bool) (ret : Word) :
    (State.saveForTrap { s with p := { s.p with b := b } } ret).mem = (s.saveForTrap ret).mem := by
  rw [State.saveForTrap_mem, State.saveForTrap_mem, Flags.pushed_with_b]
  rfl

/-- PHP's whole next state (R212). -/
theorem exec_php (s : State) :
    exec .php s =
      .next { s with mem := s.mem.write (stackAddr s.sp).toNat s.p.pushed, sp := s.sp - 1, pc := s.pc + 1 } := rfl

/-- Executing an instruction with another stored B changes the stored B alone. -/
theorem exec_with_b {i : Instr} {s t : State} (b : Bool) (hexec : exec i s = .next t) :
    ∃ b', exec i { s with p := { s.p with b := b } } = .next { t with p := { t.p with b := b' } } := by
  cases i with
  | bcc | bcs | beq | bne | bpl | bmi | bvc | bvs =>
    rw [branch_keeps_flags hexec]
    exact ⟨b, branch_with_flags _ hexec⟩
  | php =>
    rw [exec_php] at hexec ⊢
    cases hexec
    exact ⟨b, by rw [Flags.pushed_with_b]⟩
  | brk =>
    rw [exec_brk] at hexec ⊢
    cases hexec
    exact ⟨b, by rw [State.saveForTrap_mem_with_b]; rfl⟩
  | _ =>
    cases hexec
    exact ⟨_, rfl⟩

/-- The bytes fetched depend on memory alone. -/
theorem State.bytesFrom_congr {s t : State} (h : s.mem = t.mem) (addr : Word) (n : Nat) :
    s.bytesFrom addr n = t.bytesFrom addr n := by
  induction n generalizing addr with
  | zero => rfl
  | succ n ih => rw [State.bytesFrom_succ, State.bytesFrom_succ, State.read_congr h, ih]

/-- The instruction fetched depends on memory and PC alone. -/
theorem State.fetch_congr {s t : State} (hmem : s.mem = t.mem) (hpc : s.pc = t.pc) : s.fetch = t.fetch := by
  rw [State.fetch, State.fetch, hpc, State.read_congr hmem, State.bytesFrom_congr hmem]

/-- Settles O53: the stored B has no part in the fetch, in a step to Halted, or (`exec_with_b`) in an instruction. -/
theorem storedBreakFlagIsUnobservable : Obligations.StoredBreakFlagIsUnobservable := by
  intro s t b hstep
  have hfetch : State.fetch { s with p := { s.p with b := b } } = s.fetch := State.fetch_congr rfl rfl
  obtain ⟨hready, hstep⟩ := step_next_cases hstep
  have hready' : State.run { s with p := { s.p with b := b } } = .ready := hready
  obtain ⟨i, hi, hexec⟩ | ⟨e, he, rfl⟩ := hstep
  · rw [step_ready_ok hready' (hfetch.trans hi)]
    exact exec_with_b b hexec
  · exact ⟨b, step_ready_error hready' (hfetch.trans he)⟩

/-- Settles O54: PHP and BRK, which push I and D, are left out; the branches test other flags. -/
theorem interruptAndDecimalFlagsInfluenceNothing : Obligations.InterruptAndDecimalFlagsInfluenceNothing := by
  intro i s t x d hm hexec
  cases i with
  | php | brk => exact absurd (List.mem_of_elem_eq_true rfl) hm
  | bcc | bcs | beq | bne | bpl | bmi | bvc | bvs =>
    rw [branch_keeps_flags hexec]
    exact ⟨x, d, branch_with_flags _ hexec⟩
  | _ =>
    cases hexec
    exact ⟨_, _, rfl⟩

end Sys2Proof.Machine
end

section
/-! PROOFS about the step as the host sees it (60_exceptions.md R261, 10_state.md R37), fetching what was stored
(20_memory.md R71), the two resets (70_reset_and_hazards.md R300, R301, R304) and the load (20_memory.md R66). -/

namespace Sys2Proof.Machine

/-! ### Fetching and stepping -/

/-- At a byte with no row nothing is fetched. -/
theorem State.fetch_of_none {s : State} (h : findRow (s.read s.pc) = none) :
    s.fetch = .error (.unknownOpcode (s.read s.pc)) := by
  rcases s.fetch_cases with ⟨-, hfetch, -⟩ | ⟨i, rest, -, hdecode⟩
  · exact hfetch
  · rw [State.bytesFrom_succ, decode_of_none _ h] at hdecode
    cases hdecode

/-- At a byte with no row a Ready core becomes Halted (R261). -/
theorem step_of_none {s : State} (hready : s.run = .ready) (h : findRow (s.read s.pc) = none) :
    step s = .next s.haltUnknownOpcode :=
  step_ready_error hready (State.fetch_of_none h)

/-- Settles O7: the next state is Halted with the record, which `step()` returns. -/
theorem unknownOpcodeIsReportedAndRecorded : Obligations.UnknownOpcodeIsReportedAndRecorded :=
  fun _ hready hnone => stepCall_of_next (step_of_none hready hnone)

/-- Settles O6: the listed bytes are those with no row. -/
theorem stepAtAnUnknownOpcodeOnlyHalts : Obligations.StepAtAnUnknownOpcodeOnlyHalts :=
  fun s hready hlisted => step_of_none hready ((mem_illegalOpcodes_iff (s.read s.pc)).mp hlisted)

/-- Settles O8: the step is a fault, so `step()` returns the record and keeps the state. -/
theorem haltedCoreReportsAgainAndStays : Obligations.HaltedCoreReportsAgainAndStays := by
  intro s record hhalted
  refine ⟨step_halted hhalted, ?_⟩
  rw [State.stepCall, step_halted hhalted, hhalted]
  rfl

/-- Settles O5: the fetched instruction is the one the three bytes from PC decode to. -/
theorem stepRunsTheDecodedInstruction : Obligations.StepRunsTheDecodedInstruction := by
  intro s i rest hready hdecode
  rcases s.fetch_cases with ⟨-, -, herror⟩ | ⟨j, restj, hfetch, hdecode'⟩
  · rw [herror] at hdecode
    cases hdecode
  · rw [hdecode'] at hdecode
    cases hdecode
    exact step_ready_ok hready hfetch

/-- Settles O12: no instruction halts, so the state is the one `haltUnknownOpcode` leaves at a byte with no row. -/
theorem haltedRecordNamesTheByteAtPc : Obligations.HaltedRecordNamesTheByteAtPc := by
  intro s t hstep
  obtain ⟨hready, ⟨i, -, hexec⟩ | ⟨e, he, rfl⟩⟩ := step_next_cases hstep
  · obtain ⟨t', hexec', hrun⟩ := exec_completes i s
    rw [hexec] at hexec'
    cases hexec'
    rw [State.HaltedInv, hrun, hready]
    trivial
  · rcases s.fetch_cases with ⟨hnone, -⟩ | ⟨i, rest, hfetch, -⟩
    · exact ⟨rfl, rfl, hnone⟩
    · rw [he] at hfetch
      cases hfetch

/-! ### Bytes written in a row -/

/-- Writing bytes changes memory alone. -/
theorem State.writeBytes_eq (s : State) (addr : Word) (bytes : List Byte) :
    s.writeBytes addr bytes = { s with mem := (s.writeBytes addr bytes).mem } := by
  induction bytes generalizing s addr with
  | nil => rfl
  | cons b bytes ih =>
    rw [State.writeBytes, ih]
    rfl

theorem word_add_ofNat_succ (addr : Word) (k : Nat) :
    addr + BitVec.ofNat 16 (k + 1) = addr + 1 + BitVec.ofNat 16 k := by
  rw [Nat.add_comm, BitVec.ofNat_add, ← BitVec.add_assoc]
  rfl

/-- A byte that is none of those written is as before. -/
theorem State.read_writeBytes_other (s : State) (addr : Word) (bytes : List Byte) {other : Word}
    (h : ∀ k < bytes.length, other ≠ addr + BitVec.ofNat 16 k) :
    (s.writeBytes addr bytes).read other = s.read other := by
  induction bytes generalizing s addr with
  | nil => rfl
  | cons b bytes ih =>
    have hfirst : other ≠ addr := by simpa using h 0 (Nat.succ_pos _)
    rw [State.writeBytes, ih, State.read_write_other s b hfirst]
    intro k hk
    rw [← word_add_ofNat_succ]
    exact h (k + 1) (Nat.succ_lt_succ hk)

/-- Of at most 65536 bytes written in a row, each is read back where it was written: no two share an address. -/
theorem State.read_writeBytes_at (s : State) (addr : Word) (bytes : List Byte) (hfits : bytes.length ≤ 65536)
    {k : Nat} (hk : k < bytes.length) : (s.writeBytes addr bytes).read (addr + BitVec.ofNat 16 k) = bytes[k] := by
  induction bytes generalizing s addr k with
  | nil => cases hk
  | cons b bytes ih =>
    rw [List.length_cons] at hfits
    cases k with
    | zero =>
      rw [State.writeBytes, State.read_writeBytes_other]
      · simp
      · intro j hj
        bv_omega
    | succ k =>
      rw [State.writeBytes, word_add_ofNat_succ, ih _ _ (by omega) (Nat.lt_of_succ_lt_succ hk)]
      rfl

/-- Settles O60: a load that fits is the bytes written in a row, any other is refused. -/
theorem loadWritesItsBytesOrRefuses : Obligations.LoadWritesItsBytesOrRefuses := by
  intro s addr bytes
  refine ⟨fun hfits => ⟨s.writeBytes addr bytes, if_pos hfits, s.writeBytes_eq addr bytes, ?bytes, ?frame⟩,
    fun hpast => if_neg hpast.not_ge⟩
  case bytes => exact fun k hk => s.read_writeBytes_at addr bytes ((Nat.le_add_left ..).trans hfits) hk
  case frame => exact fun other hother => s.read_writeBytes_other addr bytes hother

/-- The bytes in a row from an address, each at its own. -/
theorem State.bytesFrom_eq_map (s : State) (addr : Word) (n : Nat) :
    s.bytesFrom addr n = (List.range n).map fun k => s.read (addr + BitVec.ofNat 16 k) := by
  induction n generalizing addr with
  | zero => rfl
  | succ n ih =>
    have htail : (fun k => s.read (addr + 1 + BitVec.ofNat 16 k)) =
        (fun k => s.read (addr + BitVec.ofNat 16 k)) ∘ Nat.succ :=
      funext fun k => congrArg s.read (word_add_ofNat_succ addr k).symm
    rw [State.bytesFrom_succ, ih, List.range_succ_eq_map, List.map_cons, List.map_map, htail, BitVec.add_zero]

/-- Bytes written in a row are the first of those fetched from there. -/
theorem State.bytesFrom_writeBytes (s : State) (addr : Word) (bytes : List Byte) (hfits : bytes.length ≤ 65536)
    (n : Nat) : ∃ rest, (s.writeBytes addr bytes).bytesFrom addr (bytes.length + n) = bytes ++ rest := by
  rw [State.bytesFrom_eq_map, List.range_add, List.map_append]
  refine ⟨_, congrArg (· ++ _) (List.ext_getElem (by simp) fun k hk hk' => ?_)⟩
  rw [List.getElem_map, List.getElem_range, State.read_writeBytes_at s addr bytes hfits hk']

/-- An instruction has at most two operand bytes (30_encoding.md R81). -/
theorem operand_bytes_length_le (operand : Operand) : operand.bytes.length ≤ 2 := by
  cases operand with
  | addressed mode => cases mode <;> simp [Operand.bytes, AddrMode.bytes]
  | _ => simp [Operand.bytes]

/-- Settles O13: the three bytes from PC begin with the encoding written there, which O1 decodes. -/
theorem storedBytesAreFetchedAndRun : Obligations.StoredBytesAreFetchedAndRun := by
  intro s i hready
  have hlength : (encode i).length ≤ 3 := Nat.succ_le_succ (operand_bytes_length_le i.operand)
  obtain ⟨rest, hbytes⟩ := s.bytesFrom_writeBytes s.pc (encode i) (by omega) (3 - (encode i).length)
  rw [Nat.add_sub_cancel' hlength] at hbytes
  have hsame := s.writeBytes_eq s.pc (encode i)
  have hrun : (s.writeBytes s.pc (encode i)).run = .ready := by rw [hsame]; exact hready
  have hpc : (s.writeBytes s.pc (encode i)).pc = s.pc := by rw [hsame]
  refine stepRunsTheDecodedInstruction _ i rest hrun ?_
  rw [hpc, hbytes]
  exact decodeOfEncodeIsTheInstruction i rest

/-! ### The resets and the loop of a cleared memory -/

/-- Settles O58: the registers and flags are the reset values, PC is the word read at the reset vector (O19), and a step
of a Halted core keeps the state (O8). -/
theorem coreResetGivesTheResetValues : Obligations.CoreResetGivesTheResetValues := by
  intro s
  refine ⟨rfl, rfl, rfl, rfl, rfl, rfl, ?pc, rfl, rfl, ?halted⟩
  case pc => exact wordReadIsLittleEndianAndWraps s resetVector
  case halted =>
    intro hnotReady
    cases hrun : s.run with
    | ready => exact absurd hrun hnotReady
    | halted record => exact congrArg Prod.snd (haltedCoreReportsAgainAndStays s record hrun).2

/-- The whole state after the literal `reset()`: the vector read from cleared memory is 0x0000 (R301). -/
theorem State.hostReset_eq (s : State) :
    s.hostReset = { s with a := 0x00, x := 0x00, y := 0x00, sp := 0xFF, pc := 0x0000,
                           p := resetFlags s.config.resetFlags, run := .ready, mem := [] } := by
  have hvector : s.clearMemory.read16 resetVector = 0x0000 := (rfl : wordOfBytes 0x00 0x00 = 0x0000)
  rw [State.hostReset, State.coreReset, hvector]
  rfl

/-- Settles O59: each field is that of `State.hostReset_eq`, and every read of cleared memory is 0x00. -/
theorem literalResetClearsMemory : Obligations.LiteralResetClearsMemory := by
  intro s
  rw [State.hostReset_eq]
  refine ⟨fun _ => rfl, ⟨rfl, rfl, rfl, rfl⟩, rfl, rfl, rfl, fun hdefault => ?_⟩
  rw [hdefault]
  rfl

/-- Ready at 0x0000, with BRK there and in a vector that leads back (R304). -/
structure State.AtBrkLoop (s : State) : Prop where
  ready : s.run = .ready
  pc : s.pc = 0x0000
  opcode : s.read 0x0000 = 0x00
  vectorLow : s.read 0xFFFE = 0x00
  vectorHigh : s.read 0xFFFF = 0x00

/-- No stack location is address 0x0000. -/
theorem zero_ne_stackAddr (sp : Byte) : 0x0000 ≠ stackAddr sp := by
  intro h
  have htoNat := stackAddr_toNat sp
  rw [← h] at htoNat
  bv_omega

/-- At the loop a step is BRK's, which comes back to the loop: its stores are in the stack page. -/
theorem State.AtBrkLoop.step {s : State} (h : s.AtBrkLoop) :
    step s = exec .brk s ∧ ∃ t, exec .brk s = .next t ∧ t.AtBrkLoop := by
  have hdecode : decode (s.bytesFrom s.pc 3) = .ok (.brk, s.bytesFrom (s.pc + 1) 2) := by
    rw [State.bytesFrom_succ, h.pc, h.opcode]
    exact decodeOfEncodeIsTheInstruction .brk _
  refine ⟨stepRunsTheDecodedInstruction s .brk _ h.ready hdecode, ?_⟩
  obtain ⟨t, hbrk, -, -, -, hframe, ht⟩ := brkTakesTheTrap s
  have keeps : ∀ addr, (∀ sp, addr ≠ stackAddr sp) → t.read addr = s.read addr :=
    fun addr hne => hframe addr (hne _) (hne _) (hne _)
  refine ⟨t, hbrk, ?ready, ?pc, ?opcode, ?low, ?high⟩
  case ready => rw [ht]; exact h.ready
  case pc => rw [ht, h.vectorLow, h.vectorHigh]; rfl
  case opcode => rw [keeps _ zero_ne_stackAddr, h.opcode]
  case low => exact (keeps brkVector fun sp => (stackAddr_ne_brkVector sp).1.symm).trans h.vectorLow
  case high => exact (keeps (brkVector + 1) fun sp => (stackAddr_ne_brkVector sp).2.symm).trans h.vectorHigh

/-- From the loop any number of steps are safe and are BRK's. -/
theorem State.AtBrkLoop.forever {s : State} (h : s.AtBrkLoop) (n : Nat) : s.SafeRun n ∧ Claims.BrkAtZero s n := by
  induction n generalizing s with
  | zero => exact ⟨h.ready, h.ready, h.pc⟩
  | succ n ih =>
    obtain ⟨hstep, t, hbrk, ht⟩ := h.step
    obtain ⟨hsafe, hbrks⟩ := ih ht
    exact ⟨⟨h.ready, t, hstep.trans hbrk, hsafe⟩, h.ready, h.pc, t, hstep, hbrk, hbrks⟩

/-- Settles O14: the state given is at the loop. -/
theorem clearedVectorAndBrkLoopForever : Obligations.ClearedVectorAndBrkLoopForever :=
  fun n _ hready hpc hopcode hlow hhigh => State.AtBrkLoop.forever ⟨hready, hpc, hopcode, hlow, hhigh⟩ n

end Sys2Proof.Machine
end
